-- ==== Sys2Proof/Word.lean ====
section
/-! DEFINITION. The plain words of the part: octets, texts and addresses. -/

namespace Sys2Proof

/-- One octet on a link (R177). -/
abbrev Octet := BitVec 8

/-- A text: one octet for each character (R178). -/
abbrev Text := List Octet

/-- An IPv4 address or mask (R119). -/
abbrev Ipv4 := BitVec 32

/-- A 48-bit hardware address (R42, R135). -/
abbrev HwAddr := BitVec 48

end Sys2Proof
end

