-- ==== Sys2Proof/Config.lean ====
section
/-! DEFINITION. What the part fixes without the spec giving its value, and the free values. None of these constants has a body: nothing can be proved of their values. -/

namespace Sys2Proof.Config

/-- The text that stands as the joined till id in an ABANDON record made at a start, where R63 has made every session
ABSENT and R67 wants the id. A FREE VALUE, one for each draw; log 5. -/
opaque freeTillId : Nat → Text

/-- The octets that the link header and the IPv4 header add to one of the part's own exchange datagrams. The spec gives
neither header (R147 counts "bytes as received"); log 6. -/
opaque wanHeaderOctets : Nat

/-- The 4100's own WAN address: "fixed in the part, and this manual does not give their values" (R159); log 6. -/
opaque ownWanAddress : Ipv4

/-- Which of the four block sizes (2, 4, 8 or 16 pages, as 0 to 3) a session copies where its entry to UPLOAD finds the
block size DISABLED, which R160 allows and R162 does not answer. A FREE VALUE, one for each draw; log 14. -/
opaque freeBlockSize : Nat → Fin 4

end Sys2Proof.Config
end

