-- ==== Sys2Proof/Machine/Arith.lean ====
section
/-! DEFINITION. The arithmetic every block shares: counts that stop, numbers that wrap, clamps, the rounded quotient, and operations on keyed tables. -/

namespace Sys2Proof.Machine

/-- The largest 32-bit count, 4,294,967,295. -/
def max32 : Nat := 4294967295

/-- The largest 16-bit count, 65,535. -/
def max16 : Nat := 65535

/-- The greatest item code, 99,999,999,999,999 (00, Identifiers). -/
def maxCode : Nat := 99999999999999

/-- The greatest amount, 9,999,999 pu (00, Money and quantities). -/
def maxAmount : Nat := 9999999

/-- The pages of the journal ring (R64). -/
def ringPages : Nat := 131072

/-- The most item records (R1). -/
def maxItems : Nat := 32768

/-- A count that rises by 1 and stops at its maximum `top`. -/
def bump (top n : Nat) : Nat := if n < top then n + 1 else top

/-- A count that rises by `k` and stops at its maximum `top`. -/
def addCap (top n k : Nat) : Nat := if n + k < top then n + k else top

/-- A 32-bit number that follows 4,294,967,295 with 1 (R49, R64, R113). -/
def next32 (n : Nat) : Nat := if n < max32 then n + 1 else 1

/-- A 16-bit number that follows 65,535 with 1 (R158, R184). -/
def next16 (n : Nat) : Nat := if n < max16 then n + 1 else 1

/-- A 16-bit number that follows 65,535 with 0 (R3, R104). -/
def wrap16 (n : Nat) : Nat := if n < max16 then n + 1 else 0

/-- A value clamped into `lo..hi`. -/
def clamp (lo hi n : Nat) : Nat := if n < lo then lo else if hi < n then hi else n

/-- "x divided by y, rounded": half up by the twice-the-remainder test (R24). -/
def roundDiv (x y : Nat) : Nat := if y ≤ 2 * (x % y) then x / y + 1 else x / y

/-- Division rounded up to a whole number (R65, R162). -/
def ceilDiv (x y : Nat) : Nat := (x + y - 1) / y

/-- Entry `i` of a fixed table, `d` where there is none. -/
def tget {α : Type} {n : Nat} (v : Vector α n) (i : Nat) (d : α) : α := (v[i]?).getD d

/-- A fixed table with entry `i` replaced; unchanged where there is none. -/
def tset {α : Type} {n : Nat} (v : Vector α n) (i : Nat) (x : α) : Vector α n := v.setIfInBounds i x

/-- The entry of a keyed table with key `k`. -/
def findKey {α : Type} (key : α → Nat) (k : Nat) (l : List α) : Option α := l.find? fun x => key x == k

/-- A keyed table with `x` put at its key: replaced where the key stands, else inserted in ascending order. -/
def putKey {α : Type} (key : α → Nat) (x : α) : List α → List α
  | [] => [x]
  | y :: ys => if key x < key y then x :: y :: ys else if key x = key y then x :: ys else y :: putKey key x ys

/-- A keyed table without the entry of key `k`. -/
def dropKey {α : Type} (key : α → Nat) (k : Nat) (l : List α) : List α := l.filter fun x => key x != k

/-- The first entry after key `pos` in ascending order, or the first of all where `pos` is absent: the next stop of a walk (R1). -/
def nextAfter {α : Type} (key : α → Nat) (pos : Option Nat) (l : List α) : Option α :=
  l.find? fun x => match pos with | none => true | some p => decide (p < key x)

/-- A list with the first of equal entries kept, in order. -/
def distinct {α : Type} [DecidableEq α] : List α → List α
  | [] => []
  | x :: xs => x :: (distinct xs).filter (· ≠ x)

/-- The entry that comes first by `before`, the earlier of two that tie. -/
def bestBy {α : Type} (before : α → α → Bool) : List α → Option α
  | [] => none
  | x :: xs => match bestBy before xs with
    | none => some x
    | some y => if before y x then some y else some x

end Sys2Proof.Machine
end

