-- ==== Sys2Proof/Syntax.lean ====
section
/-! DEFINITION. The commands of the part: one constructor of `Instr` for each row of spec/opcode_table.json, with its operands.
Fields of host requests stand as the frame gives them: enumerated values are their octet's number (R178), judged by the meaning. -/

namespace Sys2Proof

/-- A label address: rail and slot (R79). -/
structure LabelAddr where
  rail : Nat
  slot : Nat
  deriving DecidableEq, Repr

/-- The tag of a label update: price version, template revision, overlay stamp (R89). -/
structure LabelTag where
  version  : Option Nat
  revision : Nat
  stamp    : List Nat
  deriving DecidableEq, Repr

/-- What the attached memory answers to the checked reads of one step: the item codes whose record check fails (R22) and
the journal pages, as sequence and page index, whose check fails (R75). DESIGN CHOICE, log 24. -/
structure MemFaults where
  items : List Nat
  pages : List (Nat × Nat)
  deriving DecidableEq, Repr

/-- A memory whose every check passes. -/
def MemFaults.clean : MemFaults := ⟨[], []⟩

/-- A promotion as a frame gives it: the form's number and its figures, `a` first (r, f or n), then `b` (p) (R2). -/
structure RawPromotion where
  form : Nat
  a    : Nat
  b    : Nat
  deriving DecidableEq, Repr

/-- A price record as a frame gives it (R2). -/
structure RawPrice where
  unit  : Nat
  mode  : Nat
  basis : Nat
  pack  : Option Nat
  promo : RawPromotion
  deriving DecidableEq, Repr

/-- The part of a change entry that only ADD and CHANGE carry (R159). -/
structure RawDetail where
  desc  : Text
  band  : Nat
  price : RawPrice
  deriving DecidableEq, Repr

/-- A change entry of a BPART: kind 0 ADD, 1 CHANGE, 2 DELETE, others unknown (R159, R168). -/
structure RawChange where
  kind   : Nat
  code   : Nat
  detail : Option RawDetail
  deriving DecidableEq, Repr

/-- The fields of ITEM-PUT (R14). -/
structure ItemPutArgs where
  code  : Nat
  desc  : Text
  band  : Nat
  price : RawPrice
  deriving DecidableEq, Repr

/-- The fields of ITEM-PRICE (R15). -/
structure ItemPriceArgs where
  code  : Nat
  price : RawPrice
  deriving DecidableEq, Repr

/-- The fields of TAX-SET (R19). -/
structure TaxArgs where
  band : Nat
  rate : Nat
  deriving DecidableEq, Repr

/-- The fields of ROSTER-SET (R40). -/
structure RosterArgs where
  lane    : Nat
  tillId  : Text
  allowed : Bool
  policy  : Nat
  band    : Nat
  deriving DecidableEq, Repr

/-- The fields of TILL-PARAMS (R60). -/
structure TillParamsArgs where
  poll   : Nat
  window : Nat
  deriving DecidableEq, Repr

/-- The fields of JOURNAL-READ (R76). -/
structure JournalReadArgs where
  seq  : Nat
  page : Option Nat
  deriving DecidableEq, Repr

/-- The fields of LABEL-ADD (R96). -/
structure LabelAddArgs where
  addr     : LabelAddr
  template : Option Nat
  deriving DecidableEq, Repr

/-- The fields of LABEL-BIND (R97). -/
structure LabelBindArgs where
  addr     : LabelAddr
  code     : Nat
  template : Option Nat
  deriving DecidableEq, Repr

/-- The fields of RAIL-SET (R101). -/
structure RailSetArgs where
  first : Nat
  last  : Nat
  code  : Nat
  deriving DecidableEq, Repr

/-- The fields of LABEL-PARAMS (R102). -/
structure LabelParamsArgs where
  retry    : Nat
  presence : Nat
  deriving DecidableEq, Repr

/-- The fields of TEMPLATE-ELEMENT (R105, R108). -/
structure RawElement where
  kind   : Nat
  row    : Nat
  column : Nat
  size   : Nat
  text   : Option Text
  called : Option Nat
  deriving DecidableEq, Repr

/-- The fields of OVERLAY-SET (R113). -/
structure OverlayArgs where
  overlay : Nat
  slot    : Nat
  first   : Nat
  last    : Nat
  deriving DecidableEq, Repr

/-- The fields of RANGE-SET (R127). -/
structure RangeArgs where
  index  : Nat
  base   : Ipv4
  mask   : Ipv4
  enable : Bool
  zone   : Nat
  peer   : Bool
  claim  : Bool
  deriving DecidableEq, Repr

/-- The fields of POLICY-SET (R129). -/
structure PolicyArgs where
  src   : Nat
  dst   : Nat
  value : Nat
  deriving DecidableEq, Repr

/-- A Kind Table entry as KIND-SET gives it (R130). -/
structure RawKind where
  low  : Nat
  high : Nat
  kind : Nat
  deriving DecidableEq, Repr

/-- The fields of KIND-SET; an absent entry is the unused form (R130). -/
structure KindArgs where
  index : Nat
  entry : Option RawKind
  deriving DecidableEq, Repr

/-- The fields of HINT-SET (R131). -/
structure HintArgs where
  src         : Nat
  dst         : Nat
  payment     : Nat
  interactive : Nat
  bulk        : Nat
  control     : Nat
  deriving DecidableEq, Repr

/-- The portal address and the guest address block (R132, R146). -/
structure Portal where
  addr : Ipv4
  base : Ipv4
  mask : Ipv4
  deriving DecidableEq, Repr

/-- The fields of GUEST-SERVICE (R138). -/
structure GuestServiceArgs where
  service : Nat
  idle    : Option Nat
  deriving DecidableEq, Repr

/-- The fields of GUEST-ADMIT (R143). -/
structure GuestAdmitArgs where
  hw       : HwAddr
  duration : Nat
  quota    : Nat
  deriving DecidableEq, Repr

/-- The fields of PROFILE-SET (R155). -/
structure ProfileArgs where
  profile : Nat
  ctrl    : Nat
  store   : Nat
  exch    : Nat
  guest   : Nat
  deriving DecidableEq, Repr

/-- The fields of CUTOVER-AT (R172). -/
structure CutoverAtArgs where
  time  : Nat
  drain : Option Nat
  deriving DecidableEq, Repr

/-- The fields of FAULT-CLEAR (R185). -/
structure FaultClearArgs where
  domain : Nat
  seq    : Nat
  deriving DecidableEq, Repr

/-- Why octets or a frame on the Message Port were discarded (R179, R180). -/
inductive FrameErrorCause
  | sync | length | check | tag | noRoom
  deriving DecidableEq, Repr

/-- The parts of the retained state, in the order in which R188 lists them. -/
inductive RetainedPart
  | items | tills | journal | labels | templates | forwarding | uplink | exchange
  deriving DecidableEq, Repr

/-- What the retained memory gives back at a start: all that the part left there, or something else from a first part on, or, after a
loss of the backup supply, nothing, the check word included (R188). -/
inductive RetainedMemory
  | kept
  | damaged (first : RetainedPart)
  | lost
  deriving DecidableEq, Repr

/-- The four indications of a till's STATUS (R41). -/
structure Indications where
  drawerOpen : Bool
  printerLow : Bool
  service    : Bool
  basketOpen : Bool
  deriving DecidableEq, Repr

/-- How the transceiver failed to take a radio frame (R83). -/
inductive HandoverFailure
  | noAnswer
  | rejected (code : Nat)
  deriving DecidableEq, Repr

/-- An acknowledgement that could be decoded: its tag and the label's battery level (R90). -/
structure AckAnswer where
  tag     : LabelTag
  battery : Nat
  deriving DecidableEq, Repr

/-- The traffic ports (R118). -/
inductive Port
  | lan | till | guest | wan
  deriving DecidableEq, Repr

/-- The ports that have an egress FIFO (R126). -/
inductive BranchPort
  | lan | till | guest
  deriving DecidableEq, Repr

/-- A frame that arrives at a traffic port: whether it is addressed to the part (its station address, or delivered by the
guest module), the hardware address it comes from, its frame type, what its link header encloses, and its whole length (R118). -/
structure TrafficFrame where
  toPart    : Bool
  srcHw     : HwAddr
  frameType : Nat
  payload   : List Octet
  length    : Nat
  deriving DecidableEq, Repr

/-- The commands. A host request has the tag of its frame and the fields of its body, `none` where the body is too short
or too long for its kind (R181); a request without fields has `true` where its body is empty. -/
inductive Instr
  -- items
  | itemPut (tag : Nat) (args : Option ItemPutArgs) (mem : MemFaults)
  | itemPrice (tag : Nat) (args : Option ItemPriceArgs) (mem : MemFaults)
  | itemDelete (tag : Nat) (code : Option Nat) (mem : MemFaults)
  | itemGet (tag : Nat) (code : Option Nat) (mem : MemFaults)
  | itemBlock (tag : Nat) (code : Option Nat)
  | itemUnblock (tag : Nat) (code : Option Nat)
  | lagAccept (tag : Nat) (code : Option Nat) (mem : MemFaults)
  | taxSet (tag : Nat) (args : Option TaxArgs)
  | priceParams (tag : Nat) (limit : Option Nat)
  -- tills
  | rosterSet (tag : Nat) (args : Option RosterArgs)
  | tillStatus (tag : Nat) (lane : Option Nat)
  | tillLockout (tag : Nat) (lane : Option Nat)
  | tillRelease (tag : Nat) (lane : Option Nat)
  | tillClear (tag : Nat) (lane : Option Nat) (mem : MemFaults)
  | tillParams (tag : Nat) (args : Option TillParamsArgs) (mem : MemFaults)
  -- journal
  | journalStatus (tag : Nat) (empty : Bool)
  | journalRead (tag : Nat) (args : Option JournalReadArgs) (mem : MemFaults)
  -- labels
  | labelAdd (tag : Nat) (args : Option LabelAddArgs)
  | labelBind (tag : Nat) (args : Option LabelBindArgs)
  | labelUnbind (tag : Nat) (addr : Option LabelAddr)
  | labelRemove (tag : Nat) (addr : Option LabelAddr)
  | labelGet (tag : Nat) (addr : Option LabelAddr)
  | railSet (tag : Nat) (args : Option RailSetArgs)
  | labelParams (tag : Nat) (args : Option LabelParamsArgs)
  -- templates
  | templateBegin (tag : Nat) (slot : Option Nat)
  | templateElement (tag : Nat) (args : Option RawElement)
  | templateEnd (tag : Nat) (empty : Bool)
  | templateCancel (tag : Nat) (empty : Bool)
  | templateDelete (tag : Nat) (slot : Option Nat)
  | templateKeep (tag : Nat) (slot : Option Nat)
  | templateTemp (tag : Nat) (slot : Option Nat)
  | overlaySet (tag : Nat) (args : Option OverlayArgs)
  | overlayClear (tag : Nat) (overlay : Option Nat)
  -- routing
  | rangeSet (tag : Nat) (args : Option RangeArgs)
  | rangeClear (tag : Nat) (index : Option Nat)
  | policySet (tag : Nat) (args : Option PolicyArgs)
  | kindSet (tag : Nat) (args : Option KindArgs)
  | hintSet (tag : Nat) (args : Option HintArgs)
  | portalSet (tag : Nat) (args : Option (Option Portal))
  -- guests
  | guestService (tag : Nat) (args : Option GuestServiceArgs)
  | guestAdmit (tag : Nat) (args : Option GuestAdmitArgs)
  | guestBar (tag : Nat) (hw : Option HwAddr)
  | guestEnd (tag : Nat) (hw : Option HwAddr)
  | guestGet (tag : Nat) (hw : Option (Option HwAddr))
  -- uplink
  | profileSet (tag : Nat) (args : Option ProfileArgs)
  | uplinkStatus (tag : Nat) (empty : Bool)
  -- exchange
  | blockSize (tag : Nat) (pages : Option Nat)
  | exchangeStart (tag : Nat) (branch : Option Text)
  | exchangeAbort (tag : Nat) (empty : Bool)
  | exchangeStatus (tag : Nat) (empty : Bool)
  | cutoverAt (tag : Nat) (args : Option CutoverAtArgs)
  | cutoverNow (tag : Nat) (drain : Option (Option Nat))
  -- port
  | clockSet (tag : Nat) (reading : Option Nat)
  | identify (tag : Nat) (empty : Bool)
  | faultRead (tag : Nat) (domain : Option Nat)
  | faultClear (tag : Nat) (args : Option FaultClearArgs)
  | reset (tag : Nat) (kind : Option Nat)
  | unknownKind (tag : Nat) (kind : Nat)
  | frameError (cause : FrameErrorCause)
  | hostRead
  -- power and clock
  | powerOn (memory : RetainedMemory) (mem : MemFaults)
  | resetRequest (memory : RetainedMemory) (mem : MemFaults)
  | branchClockTick
  | lagDue (code : Nat)
  -- lane protocol, each from the station at `src`
  | laneJoin (src : HwAddr) (lane : Nat) (tillId : Text)
  | laneStatus (src : HwAddr) (lane : Nat) (ind : Indications)
  | laneOpen (src : HwAddr) (lane msg : Nat)
  | laneAsk (src : HwAddr) (lane msg code quantity : Nat) (keyed : Option Nat) (mem : MemFaults)
  | laneVoid (src : HwAddr) (lane msg line : Nat)
  | laneClose (src : HwAddr) (lane msg tender : Nat) (mem : MemFaults)
  | laneCancel (src : HwAddr) (lane msg : Nat) (mem : MemFaults)
  | laneMessageMalformed
  | pollTime (lane : Nat)
  | reconnectExpiry (lane : Nat) (mem : MemFaults)
  | abandonRetry (lane : Nat) (mem : MemFaults)
  -- label radio
  | radioFrame (mem : MemFaults)
  | radioHandoverFail (failure : HandoverFailure)
  | labelAck (slot : Nat) (answer : Option AckAnswer)
  | railPollAnswer (bitmap : BitVec 24)
  | radioFrameEnd
  -- templates' own events
  | definitionTimeout
  | templateWalkStep
  -- traffic
  | frameForward (port : Port) (frame : TrafficFrame) (mem : MemFaults)
  | egressPortReady (port : BranchPort) (stationFound : Bool)
  | wanReady
  | payDropIntervalEnd
  -- guests' own events
  | guestIdle (hw : HwAddr)
  | guestExpiry (hw : HwAddr)
  | guestCooldownEnd (hw : HwAddr)
  -- exchange datagrams from head office
  | accept (session : Nat) (mem : MemFaults)
  | jack (session block : Nat) (mem : MemFaults)
  | bhead (session batch epoch count check : Nat)
  | bpart (session part : Nat) (entries : List RawChange) (last : Bool)
  | peerAbort (session reason : Nat)
  | strayDatagram
  -- the exchange engine's own events
  | helloTimeout
  | uploadIntervalExpiry (mem : MemFaults)
  | backResend
  | partTimeout
  | stagingPass1Step (mem : MemFaults)
  | stagingPass2Step (mem : MemFaults)
  | abortWalkStep (mem : MemFaults)
  | cutoverScheduleDue
  | drainLimitExpiry
  | applyWalkStep (mem : MemFaults)
  | mainPowerLoss
  deriving DecidableEq, Repr

end Sys2Proof
end

