-- ==== Sys2Proof/Machine/State.lean ====
section
/-! DEFINITION. The state of the part as plain data, every block's own (00, Block overview), and its value after reset. -/

namespace Sys2Proof.Machine

/-! ### The Item Table (01) -/

/-- Pricing mode, in the order R2 lists (R178). -/
inductive PriceMode
  | each | byWeight
  deriving DecidableEq, Repr

/-- Comparison basis, in the order R2 lists. -/
inductive Basis
  | noBasis | perKg | per100g | perLitre | perItem
  deriving DecidableEq, Repr

/-- The four forms of a promotion (R2): PERCENT in tenths of a percent, FIXED_OFF in pu, MULTIBUY n for p. -/
inductive Promotion
  | noPromo
  | percent (r : Nat)
  | fixedOff (f : Nat)
  | multibuy (n p : Nat)
  deriving DecidableEq, Repr

/-- A price record (R2). -/
structure PriceRecord where
  unit  : Nat
  mode  : PriceMode
  basis : Basis
  pack  : Option Nat
  promo : Promotion
  deriving DecidableEq, Repr

/-- A previous record with the price version under which it was current (R31). -/
structure Previous where
  record  : PriceRecord
  version : Nat
  deriving DecidableEq, Repr

/-- What a pending record does at cutover (R5). -/
inductive PendingKind
  | price (record : PriceRecord) (desc : Text) (band : Nat)
  | delete
  deriving DecidableEq, Repr

/-- A pending record (R5). -/
structure Pending where
  epoch : Nat
  batch : Nat
  kind  : PendingKind
  deriving DecidableEq, Repr

/-- An entry of a bound-label list with the copy of R7. -/
structure BoundLabel where
  addr      : LabelAddr
  confirmed : Option Nat
  excluded  : Bool
  deriving DecidableEq, Repr

/-- An item record (R1). -/
structure ItemRecord where
  code        : Nat
  desc        : Text
  band        : Nat
  blocked     : Bool
  damaged     : Bool
  current     : Option PriceRecord
  previous    : Option Previous
  pending     : Option Pending
  version     : Nat
  labels      : List BoundLabel
  count       : Nat
  lagStart    : Option Nat
  lagReported : Bool
  deriving DecidableEq, Repr

/-- The Item Table: records in ascending code order (R1), epoch (R4), pending batch identity (R5), rates (R19), lag limit (R11). -/
structure ItemTable where
  items        : List ItemRecord
  epoch        : Nat
  pendingBatch : Option Nat
  rates        : Vector Nat 8
  lagLimit     : Nat
  deriving DecidableEq, Repr

/-! ### Till Service (03) -/

/-- What an ASK for a code not in the Item Table does (R39). -/
inductive UnknownPolicy
  | refuse | openPrice
  deriving DecidableEq, Repr

/-- A Till Roster entry (R39). -/
structure RosterEntry where
  tillId  : Text
  allowed : Bool
  policy  : UnknownPolicy
  band    : Nat
  deriving DecidableEq, Repr

/-- The states of a till session (section 3.3). -/
inductive SessionState
  | absent | ready | inBasket | held | lockedOut | lost
  deriving DecidableEq, Repr

/-- Why a session entered LOST (R44). -/
inductive LostReason
  | polls | roster
  deriving DecidableEq, Repr

/-- Which record priced a line (R31, R32). -/
inductive RecordUsed
  | current | previous | openPrice
  deriving DecidableEq, Repr

/-- The terms a line carries (R31). -/
structure Terms where
  unit  : Nat
  mode  : PriceMode
  promo : Promotion
  deriving DecidableEq, Repr

/-- A basket line (R49). -/
structure Line where
  number   : Nat
  code     : Nat
  quantity : Nat
  amount   : Nat
  used     : RecordUsed
  version  : Option Nat
  terms    : Terms
  band     : Nat
  labelLag : Bool
  voided   : Bool
  deriving DecidableEq, Repr

/-- An entry of the band tax list (R36). -/
structure BandTax where
  band   : Nat
  amount : Nat
  tax    : Nat
  deriving DecidableEq, Repr

/-- A listed group discount (R34). -/
structure GroupDiscount where
  code     : Nat
  version  : Option Nat
  band     : Nat
  groups   : Nat
  discount : Nat
  deriving DecidableEq, Repr

/-- Reasons a till can receive in REFUSE, in the order of section 3.4's table (R178). -/
inductive TillRefusal
  | roster | state | holdNew | locked | badMessage | unknownItem | priceRequired | notForSale | basketFull
  | badQuantity | overLimit | basketLimit | badLine | journalFull
  deriving DecidableEq, Repr

/-- The basket summary of a WELCOME (R45). -/
structure BasketSummary where
  sequence : Nat
  lines    : Nat
  total    : Nat
  deriving DecidableEq, Repr

/-- The messages from the part to a till (R41). -/
inductive LaneMessage
  | poll (lane : Nat) (state : SessionState)
  | seen (lane : Nat)
  | welcome (lane : Nat) (state : SessionState) (period : Nat) (basket : Option BasketSummary)
  | answer (lane msg line amount : Nat) (used : Option RecordUsed) (labelLag voided : Bool) (total sequence : Nat)
  | total (lane msg total : Nat) (bands : List BandTax) (journalSeq sequence : Nat)
  | refuse (lane : Nat) (msg : Option Nat) (reason : TillRefusal)
  deriving DecidableEq, Repr

/-- One till-port frame of the Till Service: the station it goes to and its messages, a POLL and its SEEN together (R41). -/
structure LaneFrame where
  station  : HwAddr
  messages : List LaneMessage
  deriving DecidableEq, Repr

/-- The kept number and reply of the last numbered message (R43). -/
structure LastMessage where
  number : Nat
  reply  : LaneMessage
  deriving DecidableEq, Repr

/-- A till session (R44). The last five fields serve its timers: `nextPoll` and `lostAt` are elapsed seconds. -/
structure Session where
  state      : SessionState
  station    : Option HwAddr
  tillId     : Option Text
  lockout    : Bool
  missed     : Nat
  lastStatus : Option Indications
  service    : Bool
  seenOwed   : Bool
  last       : Option LastMessage
  lostSince  : Option Nat
  lostReason : Option LostReason
  foreign    : Nat
  nextPoll   : Option Nat
  polled     : Bool
  heard      : Bool
  lostAt     : Nat
  deriving DecidableEq, Repr


/-- Why a basket was abandoned (R56). -/
inductive AbandonCause
  | reconnectExpired | hostClear | restart
  deriving DecidableEq, Repr

/-- A basket (R49). While an abandon is due, `dueCause` is the cause its record will carry and `retryAt` the elapsed second of the
next retry (R56). -/
structure Basket where
  isOpen     : Bool
  sequence   : Nat
  epoch      : Nat
  openTime   : Nat
  mixed      : Bool
  abandonDue : Bool
  lines      : List Line
  dueCause   : Option AbandonCause
  retryAt    : Option Nat
  deriving DecidableEq, Repr

/-- The Till Service Unit. `serving` is clear from a start until its walks have ended (R42, R63). -/
structure TillService where
  roster     : Vector RosterEntry 64
  sessions   : Vector Session 64
  baskets    : Vector Basket 64
  pollPeriod : Nat
  window     : Nat
  hold       : Bool
  malformed  : Nat
  outbox     : List LaneFrame
  serving    : Bool
  deriving DecidableEq, Repr

/-! ### The Sales Journal (04) -/

/-- A journal pointer: a ring position and the sequence of the record that starts there (R69). -/
structure JournalPtr where
  pos : Nat
  seq : Nat
  deriving DecidableEq, Repr

/-- Tender kinds (R54). -/
inductive Tender
  | cash | card | other
  deriving DecidableEq, Repr

/-- Which host request changed a price (R13). -/
inductive PriceCause
  | itemPut | itemPrice | itemDelete
  deriving DecidableEq, Repr

/-- The header of a SALE record, less its counts of lines and groups (R66). -/
structure SaleHeader where
  lane      : Nat
  tillId    : Option Text
  sequence  : Nat
  epoch     : Nat
  openTime  : Nat
  closeTime : Nat
  tender    : Tender
  total     : Nat
  bands     : List BandTax
  mixed     : Bool
  lagUsed   : Bool
  openUsed  : Bool
  deriving DecidableEq, Repr

/-- The header of a VOID or ABANDON record, less its count of lines (R67). -/
structure BasketHeader where
  lane     : Nat
  tillId   : Option Text
  sequence : Nat
  epoch    : Nat
  openTime : Nat
  endTime  : Nat
  mixed    : Bool
  deriving DecidableEq, Repr

/-- What a journal record holds, by its kind (R66 to R68). -/
inductive JournalContent
  | sale (h : SaleHeader) (lines : List Line) (groups : List GroupDiscount)
  | void (h : BasketHeader) (lines : List Line)
  | abandon (h : BasketHeader) (cause : AbandonCause) (lines : List Line)
  | price (code : Nat) (old new : Option Nat) (cause : PriceCause)
  | lag (code excluded : Nat)
  deriving DecidableEq, Repr

/-- The kinds of journal record, in the order of R64. -/
inductive JournalKind
  | sale | void | abandon | price | lag
  deriving DecidableEq, Repr

/-- A held journal record: its frame (R64), its first ring position, the page indexes found failing (R75), its contents. -/
structure JournalRecord where
  seq      : Nat
  pos      : Nat
  pages    : Nat
  time     : Nat
  clockSet : Bool
  damaged  : Bool
  badPages : List Nat
  content  : JournalContent
  deriving DecidableEq, Repr

/-- An entry of an entry page (R65). -/
inductive JournalEntry
  | line (l : Line)
  | group (g : GroupDiscount)
  deriving DecidableEq, Repr

/-- The content of one page as the journal gives it; a failed check makes the header, each entry or the whole absent (R75). A SALE's header
page shows the record's DAMAGED mark with its three flags (R66). -/
inductive PageBody
  | saleHeader (h : Option SaleHeader) (lines groups : Nat) (damaged : Bool)
  | basketHeader (h : Option BasketHeader) (lines : Nat) (cause : Option AbandonCause)
  | entries (es : List (Option JournalEntry))
  | whole (c : Option JournalContent)
  deriving DecidableEq, Repr

/-- One page as a block read gives it (R73). -/
structure PageView where
  pos     : Nat
  seq     : Nat
  kind    : JournalKind
  pages   : Nat
  index   : Nat
  damaged : Bool
  body    : PageBody
  deriving DecidableEq, Repr

/-- The Sales Journal: held records oldest first, the three pointers of R69, the upload limit of R73 and the report flags. -/
structure Journal where
  records      : List JournalRecord
  oldest       : JournalPtr
  mark         : JournalPtr
  append       : JournalPtr
  limit        : Option JournalPtr
  highArmed    : Bool
  fullArmed    : Bool
  fullRefusals : Nat
  deriving DecidableEq, Repr

/-! ### The Shelf Label Network (05) -/

/-- Why a label owes an update; PRICE ranks above BIND, BIND above TEMPLATE (R79). -/
inductive Reason
  | price | bind | template
  deriving DecidableEq, Repr

/-- The states of a directory entry (R80). -/
inductive LabelState
  | new | idle | queued | sent | missing
  deriving DecidableEq, Repr

/-- First attempt or retry (R84). -/
inductive Attempt
  | first | retry
  deriving DecidableEq, Repr

/-- The last send of a label: its tag and the wake that began the window (R79). -/
structure LastSend where
  tag  : LabelTag
  wake : Nat
  deriving DecidableEq, Repr

/-- A Label Directory entry (R79). -/
structure LabelEntry where
  addr       : LabelAddr
  item       : Option Nat
  template   : Nat
  state      : LabelState
  confirmed  : Option Nat
  revision   : Option Nat
  stamp      : Option (List Nat)
  excluded   : Bool
  owed       : Option Reason
  requeue    : Option Reason
  lastSend   : Option LastSend
  retries    : Nat
  missed     : Nat
  battery    : Option Nat
  lowReported : Bool
  lastHeard  : Option Nat
  deriving DecidableEq, Repr

/-- An Update Queue entry (R84). `serial` numbers the joins, so that an undone grant finds its former position (R83). -/
structure QueueEntry where
  addr   : LabelAddr
  reason : Reason
  kind   : Attempt
  joined : Nat
  serial : Nat
  deriving DecidableEq, Repr

/-- A Rail Table entry (R81). -/
structure RailEntry where
  code     : Nat
  lastPoll : Option Nat
  bitmap   : BitVec 24
  deriving DecidableEq, Repr

/-- The radio port state (R83). -/
inductive RadioPort
  | ok | noAnswer | rejecting
  deriving DecidableEq, Repr

/-- What a resolved element shows from (R105); a CALL never stands in a resolved face (R115). -/
inductive FaceKind
  | priceMain | priceFraction | comparison | description | text | promoBadge
  deriving DecidableEq, Repr

/-- An element of a resolved face (R115). -/
structure FaceElement where
  row    : Nat
  column : Nat
  kind   : FaceKind
  size   : Nat
  text   : Text
  deriving DecidableEq, Repr

/-- The promotion badge "n FOR p", p as a whole part and a two-digit fraction (R37). -/
structure Badge where
  n        : Nat
  whole    : Nat
  fraction : Nat
  deriving DecidableEq, Repr

/-- The comparison field: its basis and the figure, absent for OVERFLOW (R38). -/
structure Comparison where
  basis  : Basis
  figure : Option Nat
  deriving DecidableEq, Repr

/-- The figures of a shelf label (R37, R38). -/
structure LabelFigures where
  main       : Nat
  fraction   : Nat
  perKg      : Bool
  badge      : Option Badge
  comparison : Option Comparison
  deriving DecidableEq, Repr

/-- A composed update (R89). -/
structure Update where
  addr     : LabelAddr
  figures  : Option LabelFigures
  desc     : Option Text
  elements : List FaceElement
  tag      : LabelTag
  deriving DecidableEq, Repr

/-- A slot granted in the frame in flight: the update sent, and what the grant replaced, for R83. -/
structure Grant where
  addr     : LabelAddr
  update   : Update
  entry    : QueueEntry
  oldState : LabelState
  oldSend  : Option LastSend
  deriving DecidableEq, Repr

/-- The radio frame in flight (R82): its number, the rail of its poll, its grants in slot order. `accepted` is set once an
answer has come back, `polled` once the bitmap has. -/
structure FrameInFlight where
  number   : Nat
  rail     : Option Nat
  grants   : List Grant
  accepted : Bool
  polled   : Bool
  deriving DecidableEq, Repr

/-- The Label Radio Controller. -/
structure LabelRadio where
  directory  : List LabelEntry
  rails      : Vector RailEntry 1024
  queue      : List QueueEntry
  nextSerial : Nat
  retryLimit : Nat
  presence   : Nat
  port       : RadioPort
  stale      : Nat
  frame      : Option FrameInFlight
  frameDue   : Bool
  deriving DecidableEq, Repr

/-! ### The Template Store (06) -/

/-- The kinds of element, in the order of R105; TEXT and CALL carry what only they have. -/
inductive ElementKind
  | priceMain | priceFraction | comparison | description
  | text (literal : Text)
  | promoBadge
  | call (slot : Nat)
  deriving DecidableEq, Repr

/-- A template element (R105). -/
structure Element where
  kind   : ElementKind
  row    : Nat
  column : Nat
  size   : Nat
  deriving DecidableEq, Repr

/-- The states of a template slot (R104). -/
inductive SlotState
  | empty | defined | defining
  deriving DecidableEq, Repr

/-- Permanence (R106). -/
inductive Permanence
  | permanent | temporary
  deriving DecidableEq, Repr

/-- A template slot (R104). -/
structure TemplateSlot where
  state      : SlotState
  content    : Option (List Element)
  revision   : Nat
  permanence : Option Permanence
  deriving DecidableEq, Repr

/-- The open definition (section 6.3); `deadline` is the elapsed second of its expiry (R109). -/
structure Definition where
  slot         : Nat
  elements     : List Element
  lastAccepted : Nat
  deadline     : Nat
  deriving DecidableEq, Repr

/-- An active overlay (R113). -/
structure Overlay where
  slot  : Nat
  first : Nat
  last  : Nat
  stamp : Nat
  deriving DecidableEq, Repr

/-- Walk kinds (R111). -/
inductive WalkKind
  | publish | delete
  deriving DecidableEq, Repr

/-- A walk list entry (R111): `pos` is the key of the last directory entry visited, absent before the first. -/
structure WalkEntry where
  kind     : WalkKind
  slot     : Nat
  revision : Nat
  pos      : Option Nat
  noticed  : Nat
  deriving DecidableEq, Repr

/-- The Template Store. -/
structure TemplateStore where
  slots          : Vector TemplateSlot 64
  definition     : Option Definition
  overlays       : Vector (Option Overlay) 4
  overlayCounter : Nat
  walks          : List WalkEntry
  deriving DecidableEq, Repr

/-! ### Zones and Forwarding (07) -/

/-- The zones, in the order of R122. -/
inductive Zone
  | store | till | guest | headoffice | payment | internet | blocked
  deriving DecidableEq, Repr

/-- The zones a Range Table entry may name, in the order of R119. -/
inductive RangeZone
  | store | till | headoffice | payment | blocked
  deriving DecidableEq, Repr

/-- A Range Table entry (R119). -/
structure RangeEntry where
  base   : Ipv4
  mask   : Ipv4
  enable : Bool
  zone   : RangeZone
  peer   : Bool
  claim  : Bool
  deriving DecidableEq, Repr

/-- The value of a Policy Matrix cell (R122). -/
inductive Policy
  | allow | deny | paymentOnly
  deriving DecidableEq, Repr

/-- Traffic kinds (R124). -/
inductive TrafficKind
  | payment | interactive | bulk | control
  deriving DecidableEq, Repr

/-- A used Kind Table entry (R124). -/
structure KindEntry where
  low  : Nat
  high : Nat
  kind : TrafficKind
  deriving DecidableEq, Repr

/-- The classes a Class Hint Table row may name (R125). -/
inductive HintClass
  | pay | ctrl | store
  deriving DecidableEq, Repr

/-- A Class Hint Table row: a class for each traffic kind (R125). -/
structure HintRow where
  payment     : HintClass
  interactive : HintClass
  bulk        : HintClass
  control     : HintClass
  deriving DecidableEq, Repr

/-- A frame waiting in an egress FIFO: its IPv4 octets, where it goes, its length as received, and for the guest port the device (R126). -/
structure EgressFrame where
  packet : List Octet
  dest   : Ipv4
  length : Nat
  device : Option HwAddr
  deriving DecidableEq, Repr

/-- The Zone Forwarder's counts (R133). `denied` is indexed by `Zone`, `forwarded` by source zone, both in R122's order. -/
structure ForwardCounts where
  denied         : Vector Nat 7
  forwarded      : Vector Nat 6
  unroutableLan  : Nat
  unroutableTill : Nat
  unroutableGuest : Nat
  unroutableWan  : Nat
  spoofedLan     : Nat
  spoofedWan     : Nat
  dropLan        : Nat
  dropTill       : Nat
  dropGuest      : Nat
  deriving DecidableEq, Repr

/-- The Zone Forwarder. `policy` holds row by row the cell of source zone `s` and destination zone `d` at `7 s + d`; `hints` the row
of STORE (0) or TILL (1) against HEADOFFICE, PAYMENT, INTERNET at `3 s + d`. The last two are the elapsed seconds of R120. -/
structure Forwarder where
  ranges    : Vector RangeEntry 32
  policy    : Vector Policy 42
  kinds     : Vector (Option KindEntry) 8
  hints     : Vector HintRow 6
  lanFifo   : List EgressFrame
  tillFifo  : List EgressFrame
  guestFifo : List EgressFrame
  counts    : ForwardCounts
  spoofLan  : Option Nat
  spoofWan  : Option Nat
  deriving DecidableEq, Repr

/-! ### Guest Access (08) -/

/-- The states of a guest session (R135). -/
inductive GuestState
  | pending | admitted | idle | throttled | expired | barred
  deriving DecidableEq, Repr

/-- A guest session (R135). `cooled` is set once the cooldown-end event of its expiry has been taken (R142). -/
structure GuestSession where
  hw         : HwAddr
  state      : GuestState
  address    : Option Ipv4
  created    : Nat
  admittedAt : Option Nat
  expiresAt  : Option Nat
  quota      : Nat
  used       : Nat
  lastFrame  : Nat
  cooled     : Bool
  deriving DecidableEq, Repr

/-- Why the Guest Access Table drops a frame, in the order of R145. -/
inductive GuestDrop
  | closed | badSource | full | portalOnly | expired | barred | noSession
  deriving DecidableEq, Repr

/-- The Guest Access Table. `drops` is indexed in the order of R145. -/
structure GuestTable where
  sessions  : List GuestSession
  isOpen    : Bool
  idleLimit : Nat
  portal    : Option Portal
  fullArmed : Bool
  drops     : Vector Nat 7
  evictions : Nat
  deriving DecidableEq, Repr

/-! ### The exchange datagrams (10), which the uplink queues carry -/

/-- The identity record (R186). -/
structure Identity where
  vendor     : Nat
  part       : Nat
  revision   : Nat
  capacities : List Nat
  check      : Nat
  deriving DecidableEq, Repr

/-- The datagrams the part sends to head office (R159). -/
inductive Datagram
  | hello (session : Nat) (branch : Text) (id : Identity) (epoch markSeq nextSeq : Nat)
  | jblock (session number firstSeq pages : Nat) (body : List PageView)
  | back (session part : Nat)
  | done (session blocks installed rejected : Nat)
  deriving DecidableEq, Repr

/-! ### Uplink Scheduling (09) -/

/-- The uplink classes (R147). -/
inductive UplinkClass
  | pay | ctrl | store | exch | guest
  deriving DecidableEq, Repr

/-- The four classes that share the uplink in turn (R152). -/
inductive SharedClass
  | ctrl | store | exch | guest
  deriving DecidableEq, Repr

/-- What a class queue holds: a forwarded packet, or one of the part's own datagrams with the address it comes from and the peer it
goes to (R147, R159). -/
inductive UplinkPayload
  | packet (octets : List Octet)
  | datagram (source peer : Ipv4) (d : Datagram)
  deriving DecidableEq, Repr

/-- A frame in a class queue with its length in bytes (R147). -/
structure UplinkFrame where
  payload : UplinkPayload
  length  : Nat
  deriving DecidableEq, Repr

/-- A class queue with its counts (R147, R154). -/
structure ClassQueue where
  frames     : List UplinkFrame
  drops      : Nat
  sentFrames : Nat
  sentBytes  : Nat
  deriving DecidableEq, Repr

/-- A burst profile (R150). -/
structure Profile where
  ctrl  : Nat
  store : Nat
  exch  : Nat
  guest : Nat
  deriving DecidableEq, Repr

/-- Which profile (R150). -/
inductive ProfileName
  | day | night
  deriving DecidableEq, Repr

/-- A running PAY-DROP interval: the elapsed second of its end and its suppressed count (R149). -/
structure PayDropInterval where
  deadline   : Nat
  suppressed : Nat
  deriving DecidableEq, Repr

/-- The Uplink Scheduler. -/
structure Uplink where
  pay            : ClassQueue
  ctrl           : ClassQueue
  store          : ClassQueue
  exch           : ClassQueue
  guest          : ClassQueue
  throttledDrops : Nat
  payDrop        : Option PayDropInterval
  day            : Profile
  night          : Profile
  inForce        : ProfileName
  holder         : SharedClass
  allowance      : Nat
  deriving DecidableEq, Repr

/-! ### The Exchange Engine (10) -/

/-- The states of the exchange session (R158). -/
inductive ExchangeState
  | idle | opening | upload | download | verify | staging | closing | aborting
  deriving DecidableEq, Repr

/-- Why an exchange session failed, in the order of R170. -/
inductive FailReason
  | noPeer | noAnswer | uploadTimeout | partTimeout | epochMismatch | stagingFull | countMismatch | batchCheck
  | hostAbort | peerAbort | restart
  deriving DecidableEq, Repr

/-- A batch header (R158). -/
structure BatchHeader where
  batch : Nat
  epoch : Nat
  count : Nat
  check : Nat
  deriving DecidableEq, Repr

/-- The exchange session record (R158), with the peer's address (R159), the state a failure arose in (R170), and the elapsed
seconds at which its timers end. -/
structure ExchangeSession where
  state        : ExchangeState
  number       : Nat
  branch       : Text
  startTag     : Nat
  attempts     : Nat
  blockSize    : Nat
  origin       : Nat
  limit        : Nat
  laid         : Nat
  highestSent  : Nat
  highestAcked : Nat
  resends      : Nat
  header       : Option BatchHeader
  highestPart  : Nat
  blocksSent   : Nat
  stray        : Nat
  installed    : Nat
  rejectedBad  : Nat
  rejectedFull : Nat
  rejectedAbsent : Nat
  failure      : Option FailReason
  failedIn     : Option ExchangeState
  peer         : Option Ipv4
  helloDue     : Option Nat
  uploadDue    : Option Nat
  partDue      : Option Nat
  backDue      : Option Nat
  deriving DecidableEq, Repr

/-- The walk in flight over the Item Table, less the APPLY walk, whose position the cutover record holds (R167). -/
inductive Walk
  | pass1 (pos : Option Nat)
  | pass2 (index : Nat)
  | abort (pos : Option Nat)
  deriving DecidableEq, Repr

/-- The states of the cutover (R172). -/
inductive CutoverState
  | none | scheduled | drain | apply | finish
  deriving DecidableEq, Repr

/-- How a drain ended (R173). -/
inductive DrainEnd
  | empty | limit
  deriving DecidableEq, Repr

/-- The cutover record (R172); `drainDue` is the elapsed second at which the drain limit expires. -/
structure Cutover where
  state         : CutoverState
  time          : Option Nat
  drainLimit    : Nat
  startTag      : Nat
  walkPos       : Option Nat
  epochAdvanced : Bool
  promoted      : Nat
  deleted       : Nat
  drainEnd      : Option DrainEnd
  basketsOpen   : Nat
  drainDue      : Option Nat
  deriving DecidableEq, Repr

/-- The Exchange Engine. An absent block size is DISABLED (R160). -/
structure Exchange where
  session      : ExchangeSession
  staging      : List RawChange
  counter      : Nat
  blockSize    : Option Nat
  stagingBatch : Option Nat
  walk         : Option Walk
  cutover      : Cutover
  deriving DecidableEq, Repr

/-! ### The Message Port (11) -/

/-- Reasons of a REFUSED reply, in the order of R181. -/
inductive RefuseReason
  | busy | unknownKind | badField | notFound | full | state | badRecord | badRange | claimHeld | staleClear
  | callLoop | callDepth | noBlockSize | epochLimit
  deriving DecidableEq, Repr

/-- What a NOT_FOUND names, in the order of R181. -/
inductive Missing
  | item | label | template | record | session
  deriving DecidableEq, Repr

/-- The detail of a REFUSED reply (R181). -/
inductive RefuseDetail
  | noDetail
  | missing (what : Missing)
  | index (i : Nat)
  | sequence (n : Nat)
  deriving DecidableEq, Repr

/-- Notes of an OK reply, in the order of R181. -/
inductive Note
  | clamped | disabled
  | cancelledOther (slot : Nat)
  | existed | started
  deriving DecidableEq, Repr

/-- The fault domains (R184). -/
inductive FaultDomain
  | till | label | route | exchange | memory
  deriving DecidableEq, Repr

/-- The detail of a fault, by its code (R184 and the owning chapters). -/
inductive FaultDetail
  | secondStation (lane : Nat) (tillId : Text) (station : HwAddr)
  | notAdmitted (lane : Nat) (tillId : Text)
  | radioSilent (frame : Nat)
  | radioRejected (frame code : Nat)
  | payDropped (drops : Nat)
  | spoofed (port : Port) (source : Ipv4)
  | session (number : Nat) (reason : FailReason)
  | retainedPart (part : RetainedPart)
  | item (code : Nat)
  | journalPage (seq index : Nat)
  deriving DecidableEq, Repr

/-- What a HOLDING Fault Record holds of its first fault (R184). -/
structure HeldFault where
  code   : Nat
  time   : Nat
  detail : FaultDetail
  later  : Nat
  deriving DecidableEq, Repr

/-- A Fault Record: CLEAR where nothing is held (R184). -/
structure FaultRecord where
  seq  : Nat
  held : Option HeldFault
  deriving DecidableEq, Repr

/-- The kind of a start as STARTED tells it (R189). -/
inductive StartKind
  | cold | warm | resetWarm
  deriving DecidableEq, Repr

/-- The cause of a start (R189). -/
inductive StartCause
  | power | resetCold | resetWarm
  deriving DecidableEq, Repr

/-- The retained result a STARTED carries (R188, R189). -/
inductive RetainedResult
  | passed | failed | absent | notChecked
  deriving DecidableEq, Repr

/-- Why a label entered MISSING (R92, R95). -/
inductive MissingCause
  | retries | polls
  deriving DecidableEq, Repr

/-- Why a definition was cancelled by the part (R109, R116). -/
inductive CancelCause
  | timeout | cutover
  deriving DecidableEq, Repr

/-- How a template walk ended (R111). -/
inductive WalkOutcome
  | complete | deleted
  deriving DecidableEq, Repr

/-- How many guest sessions stand in each state (R140, R145). -/
structure GuestCensus where
  pending   : Nat
  admitted  : Nat
  idle      : Nat
  throttled : Nat
  expired   : Nat
  barred    : Nat
  deriving DecidableEq, Repr

/-- The reports, in the order of R183's table; each body is what its own chapter states. -/
inductive ReportBody
  | labelLag (code version count lagStart : Nat) (labels : List LabelAddr)
  | tillLost (lane : Nat) (tillId : Option Text) (reason : LostReason) (basketOpen : Bool)
  | tillService (lane : Nat) (tillId : Option Text) (drawerOpen printerLow basketOpen : Bool)
  | journalHigh (unuploaded free markSeq : Nat)
  | journalFull (kind : JournalKind) (pages unuploaded free : Nat)
  | labelMissing (addr : LabelAddr) (item : Option Nat) (cause : MissingCause) (lastHeard : Option Nat) (owed : Option Reason)
  | labelBattery (addr : LabelAddr) (item : Option Nat) (level : Nat)
  | templateCancelled (slot count : Nat) (cause : CancelCause)
  | templateDone (kind : WalkKind) (slot revision noticed : Nat) (outcome : WalkOutcome)
  | guestFull (hw : HwAddr) (census : GuestCensus)
  | guestQuota (hw : HwAddr) (address : Option Ipv4) (used : Nat) (admittedAt expiresAt : Option Nat)
  | payDrop (reported total second : Nat)
  | exchangeDone (session startTag blocks installed bad full absent batch : Nat) (mark : JournalPtr)
  | exchangeFailed (session startTag : Nat) (reason : FailReason) (state : ExchangeState) (unuploaded : Nat) (mark : JournalPtr)
  | cutoverDone (startTag epoch promoted deleted slots rebound : Nat) (drainEnd : Option DrainEnd) (basketsOpen : Nat)
  | fault (domain : FaultDomain) (code seq time : Nat) (detail : FaultDetail)
  | frameError (cause : FrameErrorCause) (count : Nat)
  | overrun (lost firstLoss : Nat)
  | started (kind : StartKind) (cause : StartCause) (result : RetainedResult) (reading : Nat) (clockSet : Bool)
  deriving DecidableEq, Repr

/-- A report with the branch second at which it was queued (R183). -/
structure Report where
  second : Nat
  body   : ReportBody
  deriving DecidableEq, Repr

/-- What TILL-STATUS answers (R59); `service` is the flag as it stood before the request. -/
structure TillStatusView where
  roster      : RosterEntry
  session     : Session
  basket      : Basket
  linesMade   : Nat
  linesVoided : Nat
  total       : Nat
  pollPeriod  : Nat
  window      : Nat
  hold        : Bool
  openBaskets : Nat
  malformed   : Nat
  deriving DecidableEq, Repr

/-- What JOURNAL-STATUS answers (R77). -/
structure JournalStatusView where
  oldest       : JournalPtr
  mark         : JournalPtr
  append       : JournalPtr
  held         : Nat
  reclaimable  : Nat
  unuploaded   : Nat
  free         : Nat
  records      : Nat
  acknowledged : Nat
  limit        : Option JournalPtr
  highArmed    : Bool
  fullArmed    : Bool
  fullRefusals : Nat
  damaged      : Nat
  deriving DecidableEq, Repr

/-- What JOURNAL-READ answers (R76): the record's frame, the page, and whether the record is acknowledged. -/
structure JournalPageView where
  kind         : JournalKind
  seq          : Nat
  pages        : Nat
  time         : Nat
  clockSet     : Bool
  damaged      : Bool
  body         : PageBody
  acknowledged : Bool
  deriving DecidableEq, Repr

/-- The label's place in the Update Queue as LABEL-GET gives it (R100). -/
structure QueueView where
  reason : Reason
  kind   : Attempt
  joined : Nat
  ahead  : Nat
  deriving DecidableEq, Repr

/-- What LABEL-GET answers (R100); a DORMANT rail has no interval and no phase. -/
structure LabelView where
  entry      : Option LabelEntry
  queue      : Option QueueView
  rail       : RailEntry
  interval   : Option Nat
  phase      : Option Nat
  prices     : Nat
  binds      : Nat
  templates  : Nat
  retryLimit : Nat
  presence   : Nat
  port       : RadioPort
  stale      : Nat
  deriving DecidableEq, Repr

/-- What GUEST-GET answers (R145). -/
structure GuestView where
  session   : Option GuestSession
  isOpen    : Bool
  idleLimit : Nat
  portal    : Option Portal
  census    : GuestCensus
  evictions : Nat
  fullArmed : Bool
  drops     : Vector Nat 7
  deriving DecidableEq, Repr

/-- One class queue as UPLINK-STATUS gives it (R156). -/
structure QueueFigures where
  frames     : Nat
  bytes      : Nat
  drops      : Nat
  sentFrames : Nat
  sentBytes  : Nat
  deriving DecidableEq, Repr

/-- What UPLINK-STATUS answers (R156, R133). -/
structure UplinkView where
  day            : Profile
  night          : Profile
  inForce        : ProfileName
  holder         : SharedClass
  allowance      : Nat
  pay            : QueueFigures
  ctrl           : QueueFigures
  store          : QueueFigures
  exch           : QueueFigures
  guest          : QueueFigures
  throttledDrops : Nat
  payDropRunning : Bool
  suppressed     : Nat
  secondsLeft    : Nat
  counts         : ForwardCounts
  lanHeld        : Nat
  tillHeld       : Nat
  guestHeld      : Nat
  deriving DecidableEq, Repr

/-- What EXCHANGE-STATUS answers (R171). -/
structure ExchangeView where
  session      : ExchangeSession
  staged       : Nat
  blockSize    : Option Nat
  counter      : Nat
  stagingBatch : Option Nat
  pendingBatch : Option Nat
  epoch        : Nat
  cutover      : Cutover
  secondsLeft  : Option Nat
  deriving DecidableEq, Repr

/-- The content of an OK reply, as the owning chapter states it. -/
inductive Content
  | empty
  | number (octets n : Nat)
  | item (r : ItemRecord) (epoch : Nat) (batch : Option Nat)
  | tillStatus (v : TillStatusView)
  | journalStatus (v : JournalStatusView)
  | journalPage (v : JournalPageView)
  | label (v : LabelView)
  | range (before after : RangeEntry)
  | policy (before after : Policy)
  | kind (before after : Option KindEntry)
  | hint (before after : HintRow)
  | portal (before after : Option Portal)
  | guest (v : GuestView)
  | profile (before after : Profile)
  | uplink (v : UplinkView)
  | exchange (v : ExchangeView)
  | clock (before after : Nat)
  | identity (id : Identity)
  | fault (r : FaultRecord)
  deriving DecidableEq, Repr

/-- The three forms of a reply (R181). -/
inductive Reply
  | ok (content : Content) (notes : List Note)
  | accepted (session : Nat)
  | refused (reason : RefuseReason) (detail : RefuseDetail)
  deriving DecidableEq, Repr

/-- Where a ready reply waits: a place of the request queue, the place of the RESET request, or the immediate-refusal list (R180, R190). -/
inductive ReplyPlace
  | request | resetRequest | immediate
  deriving DecidableEq, Repr

/-- A reply waiting to be read (R182). -/
structure ReadyReply where
  tag   : Nat
  reply : Reply
  place : ReplyPlace
  deriving DecidableEq, Repr

/-- A frame sent to the host at a read (R182). -/
inductive HostFrame
  | reply (tag : Nat) (r : Reply)
  | report (r : Report)
  | empty
  deriving DecidableEq, Repr

/-- The kinds of RESET (R190). -/
inductive ResetKind
  | cold | warm
  deriving DecidableEq, Repr

/-- The Branch Clock: reading and CLOCK_SET (R187), and the seconds that have passed, by which durations run. -/
structure BranchClock where
  reading : Nat
  isSet   : Bool
  elapsed : Nat
  deriving DecidableEq, Repr

/-- The Message Port. `replies` stand in the order they became ready (R182); `resetTaken` is the kind of the first RESET whose reply the
host has not read (R190); `checkWritten` says that a check word stands in retained memory (R188), whose value is `State.checkWord`. -/
structure MessagePort where
  replies     : List ReadyReply
  reports     : List Report
  till        : FaultRecord
  label       : FaultRecord
  route       : FaultRecord
  exchange    : FaultRecord
  memory      : FaultRecord
  frameErrors : Nat
  clock       : BranchClock
  resetTaken  : Option ResetKind
  checkWritten : Bool
  deriving DecidableEq, Repr

/-! ### The part -/

/-- Main power and starting: off after a loss of main power, in a reset request from the host's reading of the RESET reply
until the start is made, else running (R188, R190). -/
inductive Power
  | off
  | resetting (kind : ResetKind)
  | running
  deriving DecidableEq, Repr

/-- A radio frame handed to the transceiver (R82). -/
structure RadioOut where
  number  : Nat
  rail    : Option Nat
  updates : List Update
  deriving DecidableEq, Repr

/-- What a port last sent on the till segment: a Till Service frame or a forwarded one (R126). -/
inductive TillOut
  | service (f : LaneFrame)
  | forwarded (f : EgressFrame)
  deriving DecidableEq, Repr

/-- What each port last sent. DESIGN CHOICE, log 42. -/
structure Outputs where
  host  : Option HostFrame
  radio : Option RadioOut
  lan   : Option EgressFrame
  till  : Option TillOut
  guest : Option EgressFrame
  wan   : Option UplinkFrame
  deriving DecidableEq, Repr

/-- The whole part: the eleven blocks less the PCU, which keeps nothing (R25), main power, the ports' last outputs, how many
free values have been drawn, and the commands that wait, first in first out. -/
structure State where
  itb     : ItemTable
  tsu     : TillService
  jnl     : Journal
  lrc     : LabelRadio
  tps     : TemplateStore
  zfw     : Forwarder
  gat     : GuestTable
  uls     : Uplink
  xce     : Exchange
  msp     : MessagePort
  power   : Power
  out     : Outputs
  free    : Nat
  pending : List Instr
  deriving DecidableEq, Repr

/-- No meaning raises a fault: the spec gives every command an effect, if only none. -/
inductive Fault
  /-- Raised by nobody. It stands so that the type is not empty; safe. -/
  | unreachable
  deriving DecidableEq, Repr

/-- Why a command is refused a meaning. -/
inductive Refusal
  /-- Raised by `exec` for a command that has no meaning yet; safe. -/
  | notModelled (mnemonic : String)
  deriving DecidableEq, Repr

/-! ### Values after a cold start, block by block -/

/-- R23. -/
def ItemTable.cold : ItemTable := ⟨[], 1, none, Vector.replicate 8 0, 1800⟩

/-- A roster entry after a cold start (R39). -/
def RosterEntry.cold : RosterEntry := ⟨List.replicate 8 32, false, .refuse, 0⟩

/-- A lane with no till (R63). DESIGN CHOICE, log 41. -/
def Session.cold : Session :=
  ⟨.absent, none, none, false, 0, none, false, false, none, none, none, 0, none, false, false, 0⟩

/-- A lane with no basket and no sale yet (R49). DESIGN CHOICE, log 41. -/
def Basket.cold : Basket := ⟨false, 0, 0, 0, false, false, [], none, none⟩

/-- R63. -/
def TillService.cold : TillService :=
  ⟨Vector.replicate 64 RosterEntry.cold, Vector.replicate 64 Session.cold, Vector.replicate 64 Basket.cold, 2, 120, false, 0, [], true⟩

/-- R78. -/
def Journal.cold : Journal := ⟨[], ⟨0, 1⟩, ⟨0, 1⟩, ⟨0, 1⟩, none, true, true, 0⟩

/-- A rail after a cold start (R103). -/
def RailEntry.cold : RailEntry := ⟨30, none, 0⟩

/-- R103. DESIGN CHOICE, log 12. -/
def LabelRadio.cold : LabelRadio :=
  ⟨[], Vector.replicate 1024 RailEntry.cold, [], 0, 4, 21600, .ok, 0, none, true⟩

/-- The base layout of slot 0 (R117). -/
def baseLayout : List Element :=
  [⟨.description, 0, 0, 1⟩, ⟨.priceMain, 3, 0, 4⟩, ⟨.priceFraction, 3, 12, 2⟩, ⟨.promoBadge, 6, 0, 1⟩, ⟨.comparison, 7, 0, 1⟩]

/-- A slot never defined (R117). -/
def TemplateSlot.cold : TemplateSlot := ⟨.empty, none, 0, none⟩

/-- R117. -/
def TemplateStore.cold : TemplateStore :=
  ⟨(Vector.replicate 64 TemplateSlot.cold).setIfInBounds 0 ⟨.defined, some baseLayout, 1, some .permanent⟩, none, Vector.replicate 4 none, 0, []⟩

/-- The cleared form of a Range Table entry (R128). -/
def RangeEntry.cleared : RangeEntry := ⟨0, 0, false, .store, false, false⟩

/-- A Class Hint Table row after a cold start (R134). -/
def HintRow.cold : HintRow := ⟨.store, .store, .store, .store⟩

/-- The Policy Matrix after a cold start, row by row (R122). -/
def coldPolicy : Vector Policy 42 :=
  #v[.allow, .allow, .deny,  .allow, .deny,  .allow, .deny,
     .allow, .deny,  .deny,  .allow, .allow, .deny,  .deny,
     .deny,  .deny,  .deny,  .deny,  .deny,  .allow, .deny,
     .allow, .allow, .deny,  .deny,  .deny,  .deny,  .deny,
     .deny,  .allow, .deny,  .deny,  .deny,  .deny,  .deny,
     .allow, .deny,  .allow, .deny,  .deny,  .deny,  .deny]

/-- All counts 0 (R134). -/
def ForwardCounts.zero : ForwardCounts := ⟨Vector.replicate 7 0, Vector.replicate 6 0, 0, 0, 0, 0, 0, 0, 0, 0, 0⟩

/-- R134. -/
def Forwarder.cold : Forwarder :=
  ⟨Vector.replicate 32 RangeEntry.cleared, coldPolicy, Vector.replicate 8 none, Vector.replicate 6 HintRow.cold, [], [], [],
   ForwardCounts.zero, none, none⟩

/-- R146. -/
def GuestTable.cold : GuestTable := ⟨[], false, 900, none, true, Vector.replicate 7 0, 0⟩

/-- An empty class queue, nothing counted (R157). -/
def ClassQueue.cold : ClassQueue := ⟨[], 0, 0, 0⟩

/-- The DAY profile after a cold start (R150). -/
def Profile.coldDay : Profile := ⟨4000, 16000, 8000, 8000⟩

/-- The NIGHT profile after a cold start (R150). -/
def Profile.coldNight : Profile := ⟨4000, 8000, 48000, 2000⟩

/-- R157. -/
def Uplink.cold : Uplink :=
  ⟨.cold, .cold, .cold, .cold, .cold, 0, none, .coldDay, .coldNight, .day, .guest, 0⟩

/-- The session record in IDLE with nothing counted (R158). DESIGN CHOICE, log 41. -/
def ExchangeSession.idle : ExchangeSession :=
  ⟨.idle, 0, [], 0, 0, 0, 0, 0, 0, 0, 0, 0, none, 0, 0, 0, 0, 0, 0, 0, none, none, none, none, none, none, none⟩

/-- The cutover record in NONE with its figures cleared (R175); the drain limit and tag are the model's choice, log 13. -/
def Cutover.idle : Cutover := ⟨.none, none, 300, 0, none, false, 0, 0, none, 0, none⟩

/-- R176. -/
def Exchange.cold : Exchange := ⟨.idle, [], 0, none, none, none, .idle⟩

/-- A Fault Record after every start (R184). -/
def FaultRecord.clear : FaultRecord := ⟨0, none⟩

/-- The Message Port right after a start has queued STARTED (R187, R189); a check word stands, kept or newly written (R188). -/
def MessagePort.started (kind : StartKind) (cause : StartCause) (result : RetainedResult) (clock : BranchClock) : MessagePort :=
  ⟨[], [⟨clock.reading, .started kind cause result clock.reading clock.isSet⟩], .clear, .clear, .clear, .clear, .clear, 0, clock, none, true⟩

/-- Nothing sent yet. -/
def Outputs.none : Outputs := ⟨.none, .none, .none, .none, .none, .none⟩

/-- The part right after a first power-up: a cold start with no check word (R188), STARTED queued (R189). DESIGN CHOICE, log 31. -/
def State.reset : State :=
  ⟨.cold, .cold, .cold, .cold, .cold, .cold, .cold, .cold, .cold,
   MessagePort.started .cold .power .absent ⟨0, false, 0⟩, .running, .none, 0, []⟩

end Sys2Proof.Machine
end

