-- ==== Sys2Proof/Machine/Ops.lean ====
section
/-! DEFINITION. The operations every block uses: the Message Port's reports, faults, replies and frame errors (11), the two clocks,
and the draw of a free value. -/

namespace Sys2Proof.Machine

/-- What `exec` and `step` answer. -/
abbrev Out := Host.Outcome State Fault Refusal

/-- The present branch second (R187). -/
def State.now (s : State) : Nat := s.msp.clock.reading

/-- The seconds that have passed, by which durations run (R187). -/
def State.elapsed (s : State) : Nat := s.msp.clock.elapsed

/-- The part works only while it has main power and no reset request has begun (R188, R190). -/
def State.running (s : State) : Prop := s.power = .running

/-- An effect that the part has only while it runs. DEDUCED, log 44. -/
def whileRunning (f : State → State) (s : State) : State := if s.power = .running then f s else s

/-! ### Reports (R183) -/

/-- The Report Queue after a report arrives: it joins below 64; a full queue's newest entry becomes OVERRUN, or counts one more loss. -/
def queueReport (now : Nat) (b : ReportBody) (q : List Report) : List Report :=
  if q.length < 64 then q ++ [⟨now, b⟩]
  else match q.getLast? with
    | some ⟨t, .overrun lost first⟩ => q.dropLast ++ [⟨t, .overrun (bump max16 lost) first⟩]
    | _ => q.dropLast ++ [⟨now, .overrun 2 now⟩]

/-- The Message Port takes a report from a block. -/
def MessagePort.report (b : ReportBody) (m : MessagePort) : MessagePort :=
  { m with reports := queueReport m.clock.reading b m.reports }

/-- A block sends the Message Port a report. -/
def State.report (b : ReportBody) (s : State) : State := { s with msp := s.msp.report b }

/-! ### Faults (R184) -/

/-- The Fault Record of a domain. -/
def MessagePort.faultRecord (m : MessagePort) : FaultDomain → FaultRecord
  | .till => m.till
  | .label => m.label
  | .route => m.route
  | .exchange => m.exchange
  | .memory => m.memory

/-- The Fault Record of a domain replaced. -/
def MessagePort.setFaultRecord (m : MessagePort) (d : FaultDomain) (r : FaultRecord) : MessagePort :=
  match d with
  | .till => { m with till := r }
  | .label => { m with label := r }
  | .route => { m with route := r }
  | .exchange => { m with exchange := r }
  | .memory => { m with memory := r }

/-- A Fault Record after a fault is logged: the sequence advances, and the first fault stands (R184, steps 1 and 2). -/
def FaultRecord.log (code time : Nat) (detail : FaultDetail) (r : FaultRecord) : FaultRecord :=
  match r.held with
  | none => ⟨next16 r.seq, some ⟨code, time, detail, 0⟩⟩
  | some h => ⟨next16 r.seq, some { h with later := bump max16 h.later }⟩

/-- A block logs a fault: the record of its domain is moved and a FAULT report is queued (R184). -/
def State.logFault (d : FaultDomain) (code : Nat) (detail : FaultDetail) (s : State) : State :=
  let r := (s.msp.faultRecord d).log code s.now detail
  State.report (.fault d code r.seq s.now detail) { s with msp := s.msp.setFaultRecord d r }

/-! ### Replies (R180 to R182) -/

/-- Requests taken whose replies the host has not read (R180). -/
def MessagePort.unreplied (m : MessagePort) : Nat := (m.replies.filter fun r => r.place != .immediate).length

/-- Replies in the immediate-refusal list (R180). -/
def MessagePort.immediates (m : MessagePort) : Nat := (m.replies.filter fun r => r.place == .immediate).length

/-- A reply becomes ready (R182). -/
def State.addReply (tag : Nat) (place : ReplyPlace) (r : Reply) (s : State) : State :=
  { s with msp := { s.msp with replies := s.msp.replies ++ [⟨tag, r, place⟩] } }

/-- The Report Queue with the waiting FRAME-ERROR report brought up to date in place (R179). -/
def updateFrameError (cause : FrameErrorCause) (count : Nat) (q : List Report) : List Report :=
  q.map fun r => match r.body with
    | .frameError _ _ => { r with body := .frameError cause count }
    | _ => r

/-- Is this a FRAME-ERROR report? -/
def ReportBody.isFrameError : ReportBody → Bool
  | .frameError _ _ => true
  | _ => false

/-- One frame error: counted, and told by one report that stays up to date until it is read (R179). -/
def State.frameErrorSeen (cause : FrameErrorCause) (s : State) : State :=
  let n := bump max32 s.msp.frameErrors
  let s := { s with msp := { s.msp with frameErrors := n } }
  if s.msp.reports.any (fun r => r.body.isFrameError) then
    { s with msp := { s.msp with reports := updateFrameError cause n s.msp.reports } }
  else s.report (.frameError cause n)

/-- A reply made at once: held in the immediate-refusal list of 8, or the frame is a frame error with cause NO_ROOM (R180). -/
def State.refuseAtOnce (tag : Nat) (reason : RefuseReason) (s : State) : State :=
  if s.msp.immediates < 8 then s.addReply tag .immediate (.refused reason .noDetail) else s.frameErrorSeen .noRoom

/-- The port takes request frames while the part runs: from the STARTED of a start until the reply of a RESET has been taken by the host,
or main power is lost (R189, R190). -/
def State.takesFrames (s : State) : Bool := s.power == .running

/-- A request is handed to its block: the port takes frames and fewer than 8 requests are unreplied (R180). -/
def State.canTake (s : State) : Bool := s.takesFrames && decide (s.msp.unreplied < 8)

/-- A request frame: discarded where the port takes none, refused BUSY where 8 are unreplied, else taken by its block, whose
answer becomes ready. The block's taking is part of the same step (log 1). -/
def hostRequest (tag : Nat) (f : State → State × Reply) (s : State) : State :=
  if s.takesFrames then
    if s.msp.unreplied < 8 then ((f s).1).addReply tag .request (f s).2
    else s.refuseAtOnce tag .busy
  else s

/-- The block judges the body first: one too short or too long is refused with BAD_FIELD (R181). -/
def withBody {α : Type} (args : Option α) (f : α → State → State × Reply) (s : State) : State × Reply :=
  match args with
  | none => (s, .refused .badField .noDetail)
  | some a => f a s

/-- The block of a request without fields: any body is too long (R181). -/
def withoutBody (empty : Bool) (f : State → State × Reply) (s : State) : State × Reply :=
  if empty then f s else (s, .refused .badField .noDetail)

/-- OK with no content and no notes. -/
def Reply.okay : Reply := .ok .empty []

/-- OK with a number that takes so many octets (R178). -/
def Reply.okNumber (octets n : Nat) : Reply := .ok (.number octets n) []

/-- OK, with CLAMPED where `c` holds. -/
def Reply.okClamped (c : Bool) : Reply := .ok .empty (if c then [.clamped] else [])

/-- REFUSED without a detail. -/
def Reply.refuse (r : RefuseReason) : Reply := .refused r .noDetail

/-- REFUSED NOT_FOUND, naming what was not found. -/
def Reply.notFound (m : Missing) : Reply := .refused .notFound (.missing m)

/-- The attention line is raised while a reply or a report waits (R182). -/
def State.attention (s : State) : Bool := !s.msp.replies.isEmpty || !s.msp.reports.isEmpty

/-! ### Free values -/

/-- Draw a free till id (log 5). -/
def State.drawTillId (s : State) : Text × State := (Config.freeTillId s.free, { s with free := s.free + 1 })

end Sys2Proof.Machine
end

