-- ==== Sys2Proof/Machine/Operands.lean ====
section
/-! DEFINITION. The operand forms: how each field of a request, a lane message or a batch change is judged, and what its number
stands for (R178: an enumerated value is its position, counted from 0, in the order its definition lists). -/

namespace Sys2Proof.Machine

/-- R2: EACH, BY_WEIGHT. -/
def modeOf : Nat → Option PriceMode
  | 0 => some .each
  | 1 => some .byWeight
  | _ => none

/-- R2: NONE, PER_KG, PER_100G, PER_LITRE, PER_ITEM. -/
def basisOf : Nat → Option Basis
  | 0 => some .noBasis
  | 1 => some .perKg
  | 2 => some .per100g
  | 3 => some .perLitre
  | 4 => some .perItem
  | _ => none

/-- A promotion whose form is known and whose figures are in range (R2). -/
def promotionOf (p : RawPromotion) : Option Promotion :=
  match p.form with
  | 0 => some .noPromo
  | 1 => if 1 ≤ p.a ∧ p.a ≤ 999 then some (.percent p.a) else none
  | 2 => if 1 ≤ p.a ∧ p.a ≤ maxAmount then some (.fixedOff p.a) else none
  | 3 => if 2 ≤ p.a ∧ p.a ≤ 99 ∧ p.b ≤ maxAmount then some (.multibuy p.a p.b) else none
  | _ => none

/-- The pack quantity as it is kept: discarded with basis NONE; otherwise in range or absent. `none` is out of range (R2). -/
def packOf (b : Basis) (k : Option Nat) : Option (Option Nat) :=
  match b, k with
  | .noBasis, _ => some none
  | _, none => some none
  | _, some k => if 1 ≤ k ∧ k ≤ 99999 then some (some k) else none

/-- Does a record whose fields are each in range hold together (R2)? -/
def PriceRecord.fits (r : PriceRecord) : Bool :=
  let multi := match r.promo with | .multibuy _ _ => true | _ => false
  !(multi && r.mode == .byWeight) && !(r.basis == .perItem && r.mode == .byWeight)
    && !(r.basis == .perItem && decide (999 < r.pack.getD 0)) && !(r.basis != .noBasis && r.pack.isNone)

/-- The validation of a price record: BAD_FIELD for a field out of range or unknown, BAD_RECORD for fields that do not fit together (R2). -/
def checkPrice (p : RawPrice) : Except RefuseReason PriceRecord :=
  match modeOf p.mode, basisOf p.basis, promotionOf p.promo with
  | some mode, some basis, some promo =>
    match packOf basis p.pack with
    | some pack =>
      if p.unit ≤ maxAmount then
        let r : PriceRecord := ⟨p.unit, mode, basis, pack, promo⟩
        if r.fits then .ok r else .error .badRecord
      else .error .badField
    | none => .error .badField
  | _, _, _ => .error .badField

/-- An item code in range. -/
def codeOk (c : Nat) : Bool := decide (1 ≤ c) && decide (c ≤ maxCode)

/-- A description of 0..24 characters and a tax band 0..7 (R1, R14). -/
def descBandOk (d : Text) (b : Nat) : Bool := decide (d.length ≤ 24) && decide (b ≤ 7)

/-- A lane 1..64. -/
def laneOk (l : Nat) : Bool := decide (1 ≤ l) && decide (l ≤ 64)

/-- Exactly 8 printable characters (R39); printable is 32..126 (PRESUMED ASCII, log 7). -/
def tillIdOk (t : Text) : Bool := t.length == 8 && t.all fun c => decide (32 ≤ c.toNat) && decide (c.toNat ≤ 126)

/-- R39: REFUSE, OPEN_PRICE. -/
def policyOf : Nat → Option UnknownPolicy
  | 0 => some .refuse
  | 1 => some .openPrice
  | _ => none

/-- R54: CASH, CARD, OTHER. -/
def tenderOf : Nat → Option Tender
  | 0 => some .cash
  | 1 => some .card
  | 2 => some .other
  | _ => none

/-- A message number 1..255 (R43). -/
def messageOk (m : Nat) : Bool := decide (1 ≤ m) && decide (m ≤ 255)

/-- A label address of the 24,576 (R79). -/
def addrOk (a : LabelAddr) : Bool := decide (a.rail ≤ 1023) && decide (a.slot ≤ 23)

/-- A template slot 0..63, or none given. -/
def slotOptOk (t : Option Nat) : Bool := match t with | none => true | some n => decide (n ≤ 63)

/-- The kind of a template element with what only its kind carries (R105); `none` where BAD_FIELD applies (R108). -/
def elementKindOf (e : RawElement) : Option ElementKind :=
  match e.kind with
  | 0 => some .priceMain
  | 1 => some .priceFraction
  | 2 => some .comparison
  | 3 => some .description
  | 4 => match e.text with
    | some t => if t.length ≤ 16 then some (.text t) else none
    | none => none
  | 5 => some .promoBadge
  | 6 => match e.called with
    | some c => if c ≤ 63 then some (.call c) else none
    | none => none
  | _ => none

/-- A template element whose every field is in range (R105, R108). -/
def elementOf (e : RawElement) : Option Element :=
  match elementKindOf e with
  | some k => if e.row ≤ 7 ∧ e.column ≤ 31 ∧ 1 ≤ e.size ∧ e.size ≤ 4 then some ⟨k, e.row, e.column, e.size⟩ else none
  | none => none

/-- The zones a Range Table entry may name, in the order of R119. -/
def rangeZoneOf : Nat → Option RangeZone
  | 0 => some .store
  | 1 => some .till
  | 2 => some .headoffice
  | 3 => some .payment
  | 4 => some .blocked
  | _ => none

/-- The zones in the order of R122. -/
def zoneOf : Nat → Option Zone
  | 0 => some .store
  | 1 => some .till
  | 2 => some .guest
  | 3 => some .headoffice
  | 4 => some .payment
  | 5 => some .internet
  | 6 => some .blocked
  | _ => none

/-- A zone's place in the order of R122. -/
def Zone.index : Zone → Nat
  | .store => 0
  | .till => 1
  | .guest => 2
  | .headoffice => 3
  | .payment => 4
  | .internet => 5
  | .blocked => 6

/-- R122: ALLOW, DENY, PAYMENT_ONLY. -/
def policyValueOf : Nat → Option Policy
  | 0 => some .allow
  | 1 => some .deny
  | 2 => some .paymentOnly
  | _ => none

/-- R124: PAYMENT, INTERACTIVE, BULK, CONTROL. -/
def trafficKindOf : Nat → Option TrafficKind
  | 0 => some .payment
  | 1 => some .interactive
  | 2 => some .bulk
  | 3 => some .control
  | _ => none

/-- R131: PAY, CTRL, STORE. -/
def hintClassOf : Nat → Option HintClass
  | 0 => some .pay
  | 1 => some .ctrl
  | 2 => some .store
  | _ => none

/-- R150: DAY, NIGHT. -/
def profileNameOf : Nat → Option ProfileName
  | 0 => some .day
  | 1 => some .night
  | _ => none

/-- R138: OPEN, CLOSED; true is OPEN. -/
def serviceOf : Nat → Option Bool
  | 0 => some true
  | 1 => some false
  | _ => none

/-- R184: TILL, LABEL, ROUTE, EXCHANGE, MEMORY. -/
def domainOf : Nat → Option FaultDomain
  | 0 => some .till
  | 1 => some .label
  | 2 => some .route
  | 3 => some .exchange
  | 4 => some .memory
  | _ => none

/-- R190: COLD, WARM. -/
def resetKindOf : Nat → Option ResetKind
  | 0 => some .cold
  | 1 => some .warm
  | _ => none

/-- A mask of contiguous leading ones: its complement is one less than a power of two (R119, R127). -/
def maskOk (m : Ipv4) : Bool := (~~~m) &&& ((~~~m) + 1) == 0

/-- No bit set outside the mask (R127). -/
def baseOk (base mask : Ipv4) : Bool := base &&& mask == base

/-- Is the address a group address: the first octet's least significant bit set (R139)? -/
def isGroup (h : HwAddr) : Bool := h.getLsbD 40

end Sys2Proof.Machine
end

