-- ==== Sys2Proof/Machine/Encoding.lean ====
section
/-! DEFINITION. The octets of what the part sends: Message Port frames with their check (R177), the field encodings and kind numbers
(R178), lane messages (R41), exchange datagrams and change entries (R159), and the identity record (R186).
The constructors of every enumeration stand in the order its own definition in the spec lists its values, so that its number is
`ctorIdx`. Widths that the text leaves open are DESIGN CHOICE, log 15. -/

namespace Sys2Proof.Machine

/-! ### Fields (R178) -/

/-- A whole number in `w` octets, the more significant first. -/
def be : Nat → Nat → List Octet
  | 0, _ => []
  | w + 1, n => BitVec.ofNat 8 (n / 256 ^ w) :: be w n

/-- A flag. -/
def encFlag (b : Bool) : List Octet := be 1 (if b then 1 else 0)

/-- A text: its number of characters, then one octet for each. -/
def encText (t : Text) : List Octet := be 1 t.length ++ t

/-- An optional field: a presence octet, then the field. -/
def encOpt {α : Type} (f : α → List Octet) : Option α → List Octet
  | none => be 1 0
  | some x => be 1 1 ++ f x

/-- A list: its number of entries in `w` octets, then the entries. -/
def encList {α : Type} (w : Nat) (f : α → List Octet) (l : List α) : List Octet := be w l.length ++ l.flatMap f

/-- An IPv4 address or mask. -/
def encIp (a : Ipv4) : List Octet := be 4 a.toNat

/-- A hardware address. -/
def encHw (h : HwAddr) : List Octet := be 6 h.toNat

/-- A label address: the rail in 2 octets and the slot in 1. -/
def encAddr (a : LabelAddr) : List Octet := be 2 a.rail ++ be 1 a.slot

/-- A journal pointer: ring position and sequence. -/
def encPtr (p : JournalPtr) : List Octet := be 4 p.pos ++ be 4 p.seq

/-! ### Records -/

/-- A promotion: its form and its figures (R2). -/
def encPromotion (p : Promotion) : List Octet :=
  be 1 p.ctorIdx ++ match p with
    | .noPromo => []
    | .percent r => be 2 r
    | .fixedOff f => be 4 f
    | .multibuy n p => be 1 n ++ be 4 p

/-- A price record (R2). -/
def encPrice (r : PriceRecord) : List Octet :=
  be 4 r.unit ++ be 1 r.mode.ctorIdx ++ be 1 r.basis.ctorIdx ++ encOpt (be 4) r.pack ++ encPromotion r.promo

/-- A pending record (R5). The place of the fields of kind PRICE, and the batch id's four octets, are DESIGN CHOICE,
logs 77 and 97. -/
def encPending (p : Pending) : List Octet :=
  be 1 p.kind.ctorIdx ++ be 4 p.epoch ++ be 4 p.batch ++ match p.kind with
    | .price r d b => encPrice r ++ encText d ++ be 1 b
    | .delete => []

/-- The fields of an item record as ITEM-GET lists them; a DAMAGED record gives current and previous as absent (R17). -/
def encItem (r : ItemRecord) : List Octet :=
  encText r.desc ++ be 1 r.band ++ encFlag r.blocked ++ encFlag r.damaged
    ++ encOpt encPrice r.current ++ encOpt (fun p => encPrice p.record) r.previous
    ++ encOpt encPending r.pending ++ be 2 r.version
    ++ encList 1 (fun l => encAddr l.addr ++ encOpt (be 2) l.confirmed ++ encFlag l.excluded) r.labels
    ++ be 1 r.count ++ encOpt (be 4) r.lagStart ++ encFlag r.lagReported

/-- The four indications of a STATUS (R41). -/
def encIndications (i : Indications) : List Octet :=
  encFlag i.drawerOpen ++ encFlag i.printerLow ++ encFlag i.service ++ encFlag i.basketOpen

/-- The terms a line carries (R66). -/
def encTerms (t : Terms) : List Octet := be 4 t.unit ++ be 1 t.mode.ctorIdx ++ encPromotion t.promo

/-- A line entry (R66). The presence octet of its version is DESIGN CHOICE, log 94. -/
def encLine (l : Line) : List Octet :=
  be 1 l.number ++ be 8 l.code ++ be 4 l.quantity ++ be 4 l.amount ++ be 1 l.used.ctorIdx ++ encOpt (be 2) l.version
    ++ encTerms l.terms ++ be 1 l.band ++ encFlag l.labelLag ++ encFlag l.voided

/-- A group discount entry (R66). -/
def encGroup (g : GroupDiscount) : List Octet :=
  be 8 g.code ++ be 2 (g.version.getD 0) ++ be 1 g.band ++ be 4 g.groups ++ be 4 g.discount

/-- A band tax list (R36, R66). -/
def encBands (bs : List BandTax) : List Octet := encList 1 (fun b => be 1 b.band ++ be 4 b.amount ++ be 4 b.tax) bs

/-- The header page of a SALE, the record's DAMAGED mark after its three flags (R66). The mark's place is DESIGN CHOICE, log 53. -/
def encSaleHeader (h : SaleHeader) (lines groups : Nat) (damaged : Bool) : List Octet :=
  be 1 h.lane ++ encText (h.tillId.getD []) ++ be 4 h.sequence ++ be 4 h.epoch ++ be 4 h.openTime ++ be 4 h.closeTime
    ++ be 1 h.tender.ctorIdx ++ be 4 h.total ++ encBands h.bands ++ be 1 lines ++ be 1 groups
    ++ encFlag h.mixed ++ encFlag h.lagUsed ++ encFlag h.openUsed ++ encFlag damaged

/-- The header page of a VOID or ABANDON (R67). -/
def encBasketHeader (h : BasketHeader) (lines : Nat) (cause : Option AbandonCause) : List Octet :=
  be 1 h.lane ++ encText (h.tillId.getD []) ++ be 4 h.sequence ++ be 4 h.epoch ++ be 4 h.openTime ++ be 4 h.endTime
    ++ be 1 lines ++ encFlag h.mixed ++ match cause with | some c => be 1 c.ctorIdx | none => []

/-- The whole of a PRICE or LAG record (R68). -/
def encWhole : JournalContent → List Octet
  | .price code old new cause => be 8 code ++ encOpt (be 4) old ++ encOpt (be 4) new ++ be 1 cause.ctorIdx
  | .lag code n => be 8 code ++ be 1 n
  | _ => []

/-- The content of a page; what a failed check empties is an absent optional field (R75). DESIGN CHOICE, log 54. -/
def encPageBody : PageBody → List Octet
  | .saleHeader h lines groups damaged => encOpt (fun h => encSaleHeader h lines groups damaged) h
  | .basketHeader h lines cause => encOpt (fun h => encBasketHeader h lines cause) h
  | .entries es => encList 1 (encOpt fun e => match e with | .line l => encLine l | .group g => encGroup g) es
  | .whole c => encOpt encWhole c

/-- A page as a block read gives it (R73). -/
def encPage (p : PageView) : List Octet :=
  be 4 p.pos ++ be 4 p.seq ++ be 1 p.kind.ctorIdx ++ be 1 p.pages ++ be 1 p.index ++ encFlag p.damaged ++ encPageBody p.body

/-! ### The identity record (R186) -/

/-- The capacities in the order listed. -/
def capacities : List Nat := [32768, 64, 200, 131072, 24576, 1024, 64, 4, 32, 8, 512, 32768, 64, 8]

/-- The sum of the 16-bit words of a run of octets, an odd run completed with a zero octet (R166). -/
def wordSum : List Octet → Nat
  | a :: b :: rest => (a.toNat * 256 + b.toNat + wordSum rest) % 65536
  | [a] => a.toNat * 256 % 65536
  | [] => 0

/-- The value that brings a word sum to 0, modulo 65,536. -/
def checkFor (sum : Nat) : Nat := (65536 - sum % 65536) % 65536

/-- The fixed identity record (R186). -/
def identity : Identity :=
  ⟨19533, 4100, 1, capacities, checkFor (wordSum (be 4 19533 ++ be 4 4100 ++ be 4 1 ++ capacities.flatMap (be 4)))⟩

/-- The identity record as it is sent (R186). -/
def encIdentity (i : Identity) : List Octet :=
  be 4 i.vendor ++ be 4 i.part ++ be 4 i.revision ++ i.capacities.flatMap (be 4) ++ be 2 i.check

/-! ### Change entries and datagrams (R159) -/

/-- A price record as a change entry carries it. -/
def encRawPrice (p : RawPrice) : List Octet :=
  be 4 p.unit ++ be 1 p.mode ++ be 1 p.basis ++ encOpt (be 4) p.pack ++ be 1 p.promo.form ++ match p.promo.form with
    | 1 => be 2 p.promo.a
    | 2 => be 4 p.promo.a
    | 3 => be 1 p.promo.a ++ be 4 p.promo.b
    | _ => []

/-- A change entry in its encoding as a field of BPART (R159, R166). -/
def encChange (c : RawChange) : List Octet :=
  be 1 c.kind ++ be 8 c.code ++ match c.detail with
    | some d => encText d.desc ++ be 1 d.band ++ encRawPrice d.price
    | none => []

/-- A datagram the part sends (R159). That a JBLOCK's page count is the count of its list of pages is DESIGN CHOICE, log 82. -/
def encDatagram : Datagram → List Octet
  | .hello n branch id epoch mark next => be 1 1 ++ be 2 n ++ encText branch ++ encIdentity id ++ be 4 epoch ++ be 4 mark ++ be 4 next
  | .jblock n k first pages body => be 1 2 ++ be 2 n ++ be 4 k ++ be 4 first ++ be 1 pages ++ body.flatMap encPage
  | .back n part => be 1 3 ++ be 2 n ++ be 2 part
  | .done n blocks installed rejected => be 1 4 ++ be 2 n ++ be 4 blocks ++ be 2 installed ++ be 2 rejected

/-! ### Lane messages (R41) -/

/-- One message from the part to a till; no record used, summary NONE and a REFUSE's message number are optional
fields, and ANSWER's flags are two octets, LABEL_LAG first. DESIGN CHOICE, logs 52 and 99. -/
def encLaneMessage : LaneMessage → List Octet
  | .poll lane st => be 1 8 ++ be 1 lane ++ be 1 st.ctorIdx
  | .seen lane => be 1 9 ++ be 1 lane
  | .welcome lane st period b =>
    be 1 10 ++ be 1 lane ++ be 1 st.ctorIdx ++ be 1 period
      ++ encOpt (fun b => be 4 b.sequence ++ be 1 b.lines ++ be 4 b.total) b
  | .answer lane msg line amount used lag voided total seq =>
    be 1 11 ++ be 1 lane ++ be 1 msg ++ be 1 line ++ be 4 amount ++ encOpt (fun u => be 1 u.ctorIdx) used
      ++ encFlag lag ++ encFlag voided ++ be 4 total ++ be 4 seq
  | .total lane msg total bands jseq seq =>
    be 1 12 ++ be 1 lane ++ be 1 msg ++ be 4 total ++ encBands bands ++ be 4 jseq ++ be 4 seq
  | .refuse lane msg reason => be 1 13 ++ be 1 lane ++ encOpt (be 1) msg ++ be 1 reason.ctorIdx

/-! ### Replies -/

/-- A note of an OK reply; the slot of CANCELLED_OTHER follows it (R178). -/
def encNote (n : Note) : List Octet := be 1 n.ctorIdx ++ match n with | .cancelledOther slot => be 1 slot | _ => []

/-- The detail of a REFUSED reply (R181). -/
def encDetail : RefuseDetail → List Octet
  | .noDetail => []
  | .missing m => be 1 m.ctorIdx
  | .index i => be 1 i
  | .sequence n => be 2 n

/-- TILL-STATUS (R59). The presence octets of joined till id, last status and lost reason are DESIGN CHOICE, log 74. -/
def encTillStatus (v : TillStatusView) : List Octet :=
  encText v.roster.tillId ++ encFlag v.roster.allowed ++ be 1 v.roster.policy.ctorIdx ++ be 1 v.roster.band
    ++ be 1 v.session.state.ctorIdx ++ encOpt encHw v.session.station ++ encOpt encText v.session.tillId
    ++ encFlag v.session.lockout ++ be 1 v.session.missed ++ encOpt encIndications v.session.lastStatus
    ++ encFlag v.session.service ++ encOpt (be 4) v.session.lostSince
    ++ encOpt (fun r => be 1 r.ctorIdx) v.session.lostReason ++ be 2 v.session.foreign
    ++ be 1 (if v.basket.isOpen then 1 else 0) ++ be 4 v.basket.sequence ++ be 4 v.basket.epoch ++ be 4 v.basket.openTime
    ++ be 1 v.linesMade ++ be 1 v.linesVoided ++ be 4 v.total ++ encFlag v.basket.mixed ++ encFlag v.basket.abandonDue
    ++ be 1 v.pollPeriod ++ be 2 v.window ++ encFlag v.hold ++ be 1 v.openBaskets ++ be 2 v.malformed

/-- JOURNAL-STATUS (R77). -/
def encJournalStatus (v : JournalStatusView) : List Octet :=
  encPtr v.oldest ++ encPtr v.mark ++ encPtr v.append ++ be 4 v.append.seq
    ++ be 4 v.held ++ be 4 v.reclaimable ++ be 4 v.unuploaded ++ be 4 v.free ++ be 4 v.records ++ be 4 v.acknowledged
    ++ encOpt encPtr v.limit ++ encFlag v.highArmed ++ encFlag v.fullArmed ++ be 2 v.fullRefusals ++ be 4 v.damaged

/-- JOURNAL-READ (R76). -/
def encJournalPage (v : JournalPageView) : List Octet :=
  be 1 v.kind.ctorIdx ++ be 4 v.seq ++ be 1 v.pages ++ be 4 v.time ++ encFlag v.clockSet ++ encFlag v.damaged
    ++ encPageBody v.body ++ encFlag v.acknowledged

/-- The tag of an update (R89). -/
def encTag (t : LabelTag) : List Octet := encOpt (be 2) t.version ++ be 2 t.revision ++ encList 1 (be 4) t.stamp

/-- A directory entry (R79). The presence octet of requeue is DESIGN CHOICE, log 100. -/
def encLabelEntry (e : LabelEntry) : List Octet :=
  encOpt (be 8) e.item ++ be 1 e.template ++ be 1 e.state.ctorIdx ++ encOpt (be 2) e.confirmed ++ encOpt (be 2) e.revision
    ++ encOpt (encList 1 (be 4)) e.stamp ++ encFlag e.excluded ++ encOpt (fun r => be 1 r.ctorIdx) e.owed
    ++ encOpt (fun r => be 1 r.ctorIdx) e.requeue ++ encOpt (fun s => encTag s.tag ++ be 4 s.wake) e.lastSend
    ++ be 1 e.retries ++ be 1 e.missed ++ encOpt (be 1) e.battery ++ encFlag e.lowReported ++ encOpt (be 4) e.lastHeard

/-- LABEL-GET (R100). The octets of interval, phase and bitmap are DESIGN CHOICE, logs 55 and 65. -/
def encLabel (v : LabelView) : List Octet :=
  encOpt encLabelEntry v.entry
    ++ encOpt (fun q => be 1 q.reason.ctorIdx ++ be 1 q.kind.ctorIdx ++ be 4 q.joined ++ be 2 q.ahead) v.queue
    ++ be 1 v.rail.code ++ encOpt (be 2) v.interval ++ encOpt (be 2) v.phase ++ encOpt (be 4) v.rail.lastPoll
    ++ be 3 v.rail.bitmap.toNat ++ be 2 v.prices ++ be 2 v.binds ++ be 2 v.templates ++ be 1 v.retryLimit ++ be 4 v.presence
    ++ be 1 v.port.ctorIdx ++ be 2 v.stale

/-- A Range Table entry (R119). -/
def encRange (r : RangeEntry) : List Octet :=
  encIp r.base ++ encIp r.mask ++ encFlag r.enable ++ be 1 r.zone.ctorIdx ++ encFlag r.peer ++ encFlag r.claim

/-- A Kind Table entry (R124). -/
def encKind (k : KindEntry) : List Octet := be 2 k.low ++ be 2 k.high ++ be 1 k.kind.ctorIdx

/-- A Class Hint Table row (R125). -/
def encHint (h : HintRow) : List Octet :=
  be 1 h.payment.ctorIdx ++ be 1 h.interactive.ctorIdx ++ be 1 h.bulk.ctorIdx ++ be 1 h.control.ctorIdx

/-- Portal address and guest block (R132), sent together or not at all (log 78). -/
def encPortal (p : Portal) : List Octet := encIp p.addr ++ encIp p.base ++ encIp p.mask

/-- How many guest sessions stand in each state (R140, R145). -/
def encCensus (c : GuestCensus) : List Octet :=
  be 2 c.pending ++ be 2 c.admitted ++ be 2 c.idle ++ be 2 c.throttled ++ be 2 c.expired ++ be 2 c.barred

/-- GUEST-GET (R145). One presence octet for portal address and guest block is DESIGN CHOICE, log 78. -/
def encGuest (v : GuestView) : List Octet :=
  encOpt (fun g => encHw g.hw ++ be 1 g.state.ctorIdx ++ encOpt encIp g.address ++ be 4 g.created ++ encOpt (be 4) g.admittedAt
      ++ encOpt (be 4) g.expiresAt ++ be 4 g.quota ++ be 4 g.used ++ be 4 g.lastFrame) v.session
    ++ be 1 (if v.isOpen then 0 else 1) ++ be 2 v.idleLimit ++ encOpt encPortal v.portal
    ++ encCensus v.census ++ be 4 v.evictions ++ encFlag v.fullArmed ++ v.drops.toList.flatMap (be 4)

/-- A profile (R150). -/
def encProfile (p : Profile) : List Octet := be 2 p.ctrl ++ be 2 p.store ++ be 2 p.exch ++ be 2 p.guest

/-- A queue's figures; the number of frames takes the octets its capacity needs (R156). -/
def encFigures (w : Nat) (q : QueueFigures) : List Octet :=
  be w q.frames ++ be 4 q.bytes ++ be 4 q.drops ++ be 4 q.sentFrames ++ be 4 q.sentBytes

/-- The Zone Forwarder's counts (R133). -/
def encCounts (c : ForwardCounts) : List Octet :=
  c.denied.toList.flatMap (be 4) ++ be 4 c.unroutableLan ++ be 4 c.unroutableTill ++ be 4 c.unroutableGuest ++ be 4 c.unroutableWan
    ++ be 4 c.spoofedLan ++ be 4 c.spoofedWan ++ be 4 c.dropLan ++ be 4 c.dropTill ++ be 4 c.dropGuest
    ++ c.forwarded.toList.flatMap (be 4)

/-- UPLINK-STATUS (R156). -/
def encUplink (v : UplinkView) : List Octet :=
  encProfile v.day ++ encProfile v.night ++ be 1 v.inForce.ctorIdx ++ be 1 v.holder.ctorIdx ++ be 2 v.allowance
    ++ encFigures 1 v.pay ++ encFigures 1 v.ctrl ++ encFigures 2 v.store ++ encFigures 1 v.exch ++ encFigures 2 v.guest
    ++ be 4 v.throttledDrops ++ encFlag v.payDropRunning ++ be 4 v.suppressed ++ be 1 v.secondsLeft
    ++ encCounts v.counts ++ be 2 v.lanHeld ++ be 2 v.tillHeld ++ be 2 v.guestHeld

/-- The session record (R158); the session number is present outside IDLE. Its presence octet is DESIGN CHOICE, log 83. -/
def encSession (x : ExchangeSession) : List Octet :=
  be 1 x.state.ctorIdx ++ encOpt (be 2) (if x.state = .idle then none else some x.number) ++ encText x.branch ++ be 1 x.startTag
    ++ be 1 x.attempts ++ be 1 x.blockSize ++ be 4 x.origin ++ be 4 x.limit ++ be 4 x.laid ++ be 4 x.highestSent
    ++ be 4 x.highestAcked ++ be 1 x.resends
    ++ encOpt (fun h => be 4 h.batch ++ be 4 h.epoch ++ be 2 h.count ++ be 2 h.check) x.header
    ++ be 2 x.highestPart ++ be 4 x.blocksSent ++ be 4 x.stray ++ be 2 x.installed ++ be 2 x.rejectedBad ++ be 2 x.rejectedFull
    ++ be 2 x.rejectedAbsent ++ encOpt (fun r => be 1 r.ctorIdx) x.failure

/-- The cutover record (R172). The presence octets of the scheduled time and of how the drain ended are DESIGN CHOICE, log 83. -/
def encCutover (c : Cutover) : List Octet :=
  be 1 c.state.ctorIdx ++ encOpt (be 4) c.time ++ be 2 c.drainLimit ++ be 1 c.startTag ++ encOpt (be 8) c.walkPos
    ++ encFlag c.epochAdvanced ++ be 2 c.promoted ++ be 2 c.deleted ++ encOpt (fun d => be 1 d.ctorIdx) c.drainEnd ++ be 1 c.basketsOpen

/-- EXCHANGE-STATUS (R171). The presence octets of the block size, absent for DISABLED, and of the drain's seconds are DESIGN CHOICE,
log 83. -/
def encExchange (v : ExchangeView) : List Octet :=
  encSession v.session ++ be 2 v.staged ++ encOpt (be 1) v.blockSize ++ be 2 v.counter ++ encOpt (be 4) v.stagingBatch
    ++ encOpt (be 4) v.pendingBatch ++ be 4 v.epoch ++ encCutover v.cutover ++ encOpt (be 2) v.secondsLeft

/-- The detail of a fault (R184). The number of the port in fault 302, and the one octet of fault 202's rejection code,
are DESIGN CHOICE, logs 69 and 89. -/
def encFaultDetail : FaultDetail → List Octet
  | .secondStation lane id hw => be 1 lane ++ encText id ++ encHw hw
  | .notAdmitted lane id => be 1 lane ++ encText id
  | .radioSilent f => be 4 f
  | .radioRejected f c => be 4 f ++ be 1 c
  | .payDropped n => be 1 UplinkClass.pay.ctorIdx ++ be 4 n
  | .spoofed p a => be 1 p.ctorIdx ++ encIp a
  | .session n r => be 2 n ++ be 1 r.ctorIdx
  | .retainedPart p => be 1 p.ctorIdx
  | .item c => be 8 c
  | .journalPage s i => be 4 s ++ be 1 i

/-- A Fault Record (R184, R185). That what it holds while HOLDING follows its state bare is DESIGN CHOICE, log 84. -/
def encFaultRecord (r : FaultRecord) : List Octet :=
  be 2 r.seq ++ match r.held with
    | none => be 1 0
    | some h => be 1 1 ++ be 2 h.code ++ be 4 h.time ++ encFaultDetail h.detail ++ be 2 h.later

/-- The content of an OK reply. The presence octets of KIND-SET's entries are DESIGN CHOICE, log 95. -/
def encContent : Content → List Octet
  | .empty => []
  | .number w n => be w n
  | .item r epoch batch => encItem r ++ be 4 epoch ++ encOpt (be 4) batch
  | .tillStatus v => encTillStatus v
  | .journalStatus v => encJournalStatus v
  | .journalPage v => encJournalPage v
  | .label v => encLabel v
  | .range a b => encRange a ++ encRange b
  | .policy a b => be 1 a.ctorIdx ++ be 1 b.ctorIdx
  | .kind a b => encOpt encKind a ++ encOpt encKind b
  | .hint a b => encHint a ++ encHint b
  | .portal a b => encOpt encPortal a ++ encOpt encPortal b
  | .guest v => encGuest v
  | .profile a b => encProfile a ++ encProfile b
  | .uplink v => encUplink v
  | .exchange v => encExchange v
  | .clock a b => be 4 a ++ be 4 b
  | .identity i => encIdentity i
  | .fault r => encFaultRecord r

/-- A reply's kind number and body (R178). -/
def encReply : Reply → Nat × List Octet
  | .ok c notes => (128, encContent c ++ encList 1 encNote notes)
  | .accepted n => (129, be 2 n)
  | .refused r d => (130, be 1 r.ctorIdx ++ encDetail d)

/-! ### Reports -/

/-- How the drain ended, a plain field of CUTOVER-DONE (R175): present at every FINISH, since only a drain that has ended leads there. -/
def encPlain (d : Option DrainEnd) : List Octet := match d with | some d => be 1 d.ctorIdx | none => []

/-- A report's body, after the branch second at which it was queued (R183). -/
def encReportBody : ReportBody → List Octet
  | .labelLag code v n start ls => be 8 code ++ be 2 v ++ be 1 n ++ be 4 start ++ encList 1 encAddr ls
  | .tillLost lane id r b => be 1 lane ++ encText (id.getD []) ++ be 1 r.ctorIdx ++ encFlag b
  | .tillService lane id d p b => be 1 lane ++ encText (id.getD []) ++ encFlag d ++ encFlag p ++ encFlag b
  | .journalHigh u f s => be 4 u ++ be 4 f ++ be 4 s
  | .journalFull k p u f => be 1 k.ctorIdx ++ be 1 p ++ be 4 u ++ be 4 f
  | .labelMissing a i c h o =>
    encAddr a ++ encOpt (be 8) i ++ be 1 c.ctorIdx ++ encOpt (be 4) h ++ encOpt (fun r => be 1 r.ctorIdx) o
  | .labelBattery a i l => encAddr a ++ encOpt (be 8) i ++ be 1 l
  | .templateCancelled s n c => be 1 s ++ be 1 n ++ be 1 c.ctorIdx
  | .templateDone k s r n o => be 1 k.ctorIdx ++ be 1 s ++ be 2 r ++ be 2 n ++ be 1 o.ctorIdx
  | .guestFull h c => encHw h ++ encCensus c
  | .guestQuota h a u ad ex => encHw h ++ encOpt encIp a ++ be 4 u ++ encOpt (be 4) ad ++ encOpt (be 4) ex
  | .payDrop n t s => be 4 n ++ be 4 t ++ be 4 s
  | .exchangeDone n tag b i bad full absent batch mark =>
    be 2 n ++ be 1 tag ++ be 4 b ++ be 2 i ++ be 2 bad ++ be 2 full ++ be 2 absent ++ be 4 batch ++ encPtr mark
  | .exchangeFailed n tag r st u mark => be 2 n ++ be 1 tag ++ be 1 r.ctorIdx ++ be 1 st.ctorIdx ++ be 4 u ++ encPtr mark
  | .cutoverDone tag e p d s r de b =>
    be 1 tag ++ be 4 e ++ be 2 p ++ be 2 d ++ be 1 s ++ be 2 r ++ encPlain de ++ be 1 b
  | .fault d c s t x => be 1 d.ctorIdx ++ be 2 c ++ be 2 s ++ be 4 t ++ encFaultDetail x
  | .frameError c n => be 1 c.ctorIdx ++ be 4 n
  | .overrun l f => be 2 l ++ be 4 f
  | .started k c r t b => be 1 k.ctorIdx ++ be 1 c.ctorIdx ++ be 1 r.ctorIdx ++ be 4 t ++ encFlag b

/-! ### Message Port frames (R177) -/

/-- One bit of the check register. -/
def crcBit (r : BitVec 16) : BitVec 16 := if r.getLsbD 15 then (r <<< 1) ^^^ 0x1021#16 else r <<< 1

/-- One octet into the check register, the most significant bit first. -/
def crcOctet (r : BitVec 16) (o : Octet) : BitVec 16 :=
  let x := r ^^^ ((o.setWidth 16) <<< 8)
  crcBit (crcBit (crcBit (crcBit (crcBit (crcBit (crcBit (crcBit x)))))))

/-- The check over a run of octets (R177). -/
def crc (os : List Octet) : BitVec 16 := os.foldl crcOctet 0xFFFF#16

/-- A frame: start marker, length, kind, tag, body, check (R177). -/
def frameOctets (kind tag : Nat) (body : List Octet) : List Octet :=
  let covered := be 2 body.length ++ be 1 kind ++ be 1 tag ++ body
  165#8 :: covered ++ be 2 (crc covered).toNat

/-- The octets of a frame sent to the host (R177, R178, R182). -/
def HostFrame.octets : HostFrame → List Octet
  | .reply tag r => frameOctets (encReply r).1 tag (encReply r).2
  | .report r => frameOctets (160 + r.body.ctorIdx) 0 (be 4 r.second ++ encReportBody r.body)
  | .empty => frameOctets 131 0 []

end Sys2Proof.Machine
end

