-- ==== Sys2Proof/Machine/Wire.lean ====
section
/-! DEFINITION. The octets of what the part receives: request bodies and the receive side of the Message Port (R177 to R179), lane
messages (R41) and head office's datagrams (R159), each read into the command it stands for. Widths follow R178; log 15. -/

namespace Sys2Proof.Machine

/-- A reader of octets: what it reads and what is left, or nothing where the octets do not hold it. -/
abbrev Parse (α : Type) := List Octet → Option (α × List Octet)

/-- The number that a run of octets stands for, the more significant first. -/
def ofOctets (os : List Octet) : Nat := os.foldl (fun n o => n * 256 + o.toNat) 0

/-- A whole number in `w` octets (R178). -/
def num (w : Nat) : Parse Nat := fun os => if os.length < w then none else some (ofOctets (os.take w), os.drop w)

/-- A flag (R178); another octet than 0 and 1 is none, also in a lane message. DESIGN CHOICE, log 51. -/
def flag : Parse Bool := fun os =>
  match os with
  | o :: rest => if o = 0 then some (false, rest) else if o = 1 then some (true, rest) else none
  | [] => none

/-- A text (R178). -/
def textField : Parse Text := fun os =>
  match os with
  | n :: rest => if rest.length < n.toNat then none else some (rest.take n.toNat, rest.drop n.toNat)
  | [] => none

/-- An optional field (R178). -/
def optional {α : Type} (p : Parse α) : Parse (Option α) := fun os => do
  let (present, os) ← flag os
  if present then
    let (x, os) ← p os
    some (some x, os)
  else some (none, os)

/-- `n` fields one after another. -/
def times {α : Type} (p : Parse α) : Nat → Parse (List α)
  | 0 => fun os => some ([], os)
  | n + 1 => fun os => do
    let (x, os) ← p os
    let (xs, os) ← times p n os
    some (x :: xs, os)

/-- A reader's result changed. -/
def Parse.map {α β : Type} (f : α → β) (p : Parse α) : Parse β := fun os => (p os).map fun r => (f r.1, r.2)

/-- A body read to its end; none where it is too short or too long (R181). -/
def whole {α : Type} (p : Parse α) (os : List Octet) : Option α :=
  match p os with
  | some (x, []) => some x
  | _ => none

/-- An IPv4 address or mask. -/
def ipField : Parse Ipv4 := (num 4).map (BitVec.ofNat 32)

/-- A hardware address. -/
def hwField : Parse HwAddr := (num 6).map (BitVec.ofNat 48)

/-- A label address. -/
def addrField : Parse LabelAddr := fun os => do
  let (rail, os) ← num 2 os
  let (slot, os) ← num 1 os
  some (⟨rail, slot⟩, os)

/-! ### Price records -/

/-- The widths of the fields of a price record that R178 widens in a request: pack quantity, r and n. -/
structure PriceWidths where
  pack : Nat
  rate : Nat
  many : Nat
  deriving DecidableEq, Repr

/-- In a request, which refuses values above the range, the next width up (R178). -/
def requestWidths : PriceWidths := ⟨8, 4, 2⟩

/-- In a BPART, the fewest octets that hold the range. -/
def batchWidths : PriceWidths := ⟨4, 2, 1⟩

/-- A promotion: its form, then the figures of its form (R2). -/
def promotionField (w : PriceWidths) : Parse RawPromotion := fun os => do
  let (form, os) ← num 1 os
  match form with
  | 1 => let (r, os) ← num w.rate os; some (⟨1, r, 0⟩, os)
  | 2 => let (f, os) ← num 4 os; some (⟨2, f, 0⟩, os)
  | 3 => let (n, os) ← num w.many os; let (p, os) ← num 4 os; some (⟨3, n, p⟩, os)
  | k => some (⟨k, 0, 0⟩, os)

/-- A price record (R2). -/
def priceField (w : PriceWidths) : Parse RawPrice := fun os => do
  let (unit, os) ← num 4 os
  let (mode, os) ← num 1 os
  let (basis, os) ← num 1 os
  let (pack, os) ← optional (num w.pack) os
  let (promo, os) ← promotionField w os
  some (⟨unit, mode, basis, pack, promo⟩, os)

/-! ### Request bodies (R178, and the owning chapters for the order of the fields) -/

/-- ITEM-PUT (R14). -/
def itemPutBody : Parse ItemPutArgs := fun os => do
  let (code, os) ← num 8 os
  let (desc, os) ← textField os
  let (band, os) ← num 2 os
  let (price, os) ← priceField requestWidths os
  some (⟨code, desc, band, price⟩, os)

/-- ITEM-PRICE (R15). -/
def itemPriceBody : Parse ItemPriceArgs := fun os => do
  let (code, os) ← num 8 os
  let (price, os) ← priceField requestWidths os
  some (⟨code, price⟩, os)

/-- TAX-SET (R19). -/
def taxBody : Parse TaxArgs := fun os => do
  let (band, os) ← num 2 os
  let (rate, os) ← num 4 os
  some (⟨band, rate⟩, os)

/-- ROSTER-SET (R40). -/
def rosterBody : Parse RosterArgs := fun os => do
  let (lane, os) ← num 2 os
  let (id, os) ← textField os
  let (allowed, os) ← flag os
  let (policy, os) ← num 1 os
  let (band, os) ← num 2 os
  some (⟨lane, id, allowed, policy, band⟩, os)

/-- TILL-PARAMS (R60). -/
def tillParamsBody : Parse TillParamsArgs := fun os => do
  let (poll, os) ← num 2 os
  let (window, os) ← num 4 os
  some (⟨poll, window⟩, os)

/-- JOURNAL-READ (R76). -/
def journalReadBody : Parse JournalReadArgs := fun os => do
  let (seq, os) ← num 4 os
  let (page, os) ← optional (num 2) os
  some (⟨seq, page⟩, os)

/-- LABEL-ADD (R96). -/
def labelAddBody : Parse LabelAddArgs := fun os => do
  let (addr, os) ← addrField os
  let (template, os) ← optional (num 2) os
  some (⟨addr, template⟩, os)

/-- LABEL-BIND (R97). -/
def labelBindBody : Parse LabelBindArgs := fun os => do
  let (addr, os) ← addrField os
  let (code, os) ← num 8 os
  let (template, os) ← optional (num 2) os
  some (⟨addr, code, template⟩, os)

/-- RAIL-SET (R101). -/
def railSetBody : Parse RailSetArgs := fun os => do
  let (first, os) ← num 4 os
  let (last, os) ← num 4 os
  let (code, os) ← num 2 os
  some (⟨first, last, code⟩, os)

/-- LABEL-PARAMS (R102). -/
def labelParamsBody : Parse LabelParamsArgs := fun os => do
  let (retry, os) ← num 2 os
  let (presence, os) ← num 8 os
  some (⟨retry, presence⟩, os)

/-- TEMPLATE-ELEMENT: the fields of one element, the text of a TEXT and the called slot of a CALL after the size (R105, R108). DESIGN CHOICE,
log 77. -/
def elementBody : Parse RawElement := fun os => do
  let (kind, os) ← num 1 os
  let (row, os) ← num 2 os
  let (column, os) ← num 2 os
  let (size, os) ← num 2 os
  match kind with
  | 4 => let (t, os) ← textField os; some (⟨4, row, column, size, some t, none⟩, os)
  | 6 => let (c, os) ← num 2 os; some (⟨6, row, column, size, none, some c⟩, os)
  | k => some (⟨k, row, column, size, none, none⟩, os)

/-- OVERLAY-SET (R113). -/
def overlayBody : Parse OverlayArgs := fun os => do
  let (overlay, os) ← num 2 os
  let (slot, os) ← num 2 os
  let (first, os) ← num 4 os
  let (last, os) ← num 4 os
  some (⟨overlay, slot, first, last⟩, os)

/-- RANGE-SET (R127). -/
def rangeBody : Parse RangeArgs := fun os => do
  let (index, os) ← num 2 os
  let (base, os) ← ipField os
  let (mask, os) ← ipField os
  let (enable, os) ← flag os
  let (zone, os) ← num 1 os
  let (peer, os) ← flag os
  let (claim, os) ← flag os
  some (⟨index, base, mask, enable, zone, peer, claim⟩, os)

/-- POLICY-SET (R129). -/
def policyBody : Parse PolicyArgs := fun os => do
  let (src, os) ← num 1 os
  let (dst, os) ← num 1 os
  let (value, os) ← num 1 os
  some (⟨src, dst, value⟩, os)

/-- A used Kind Table entry (R130). -/
def kindField : Parse RawKind := fun os => do
  let (low, os) ← num 4 os
  let (high, os) ← num 4 os
  let (kind, os) ← num 1 os
  some (⟨low, high, kind⟩, os)

/-- KIND-SET (R130). The octets of the unused form are DESIGN CHOICE, log 70. -/
def kindBody : Parse KindArgs := fun os => do
  let (index, os) ← num 2 os
  let (entry, os) ← optional kindField os
  some (⟨index, entry⟩, os)

/-- HINT-SET (R131). -/
def hintBody : Parse HintArgs := fun os => do
  let (src, os) ← num 1 os
  let (dst, os) ← num 1 os
  let (p, os) ← num 1 os
  let (i, os) ← num 1 os
  let (b, os) ← num 1 os
  let (c, os) ← num 1 os
  some (⟨src, dst, p, i, b, c⟩, os)

/-- The portal address and the guest block of a PORTAL-SET (R132). -/
def portalField : Parse Portal := fun os => do
  let (addr, os) ← ipField os
  let (base, os) ← ipField os
  let (mask, os) ← ipField os
  some (⟨addr, base, mask⟩, os)

/-- GUEST-SERVICE (R138). -/
def guestServiceBody : Parse GuestServiceArgs := fun os => do
  let (service, os) ← num 1 os
  let (idle, os) ← optional (num 4) os
  some (⟨service, idle⟩, os)

/-- GUEST-ADMIT (R143). -/
def guestAdmitBody : Parse GuestAdmitArgs := fun os => do
  let (hw, os) ← hwField os
  let (duration, os) ← num 8 os
  let (quota, os) ← num 8 os
  some (⟨hw, duration, quota⟩, os)

/-- PROFILE-SET (R155). -/
def profileBody : Parse ProfileArgs := fun os => do
  let (profile, os) ← num 1 os
  let (ctrl, os) ← num 4 os
  let (store, os) ← num 4 os
  let (exch, os) ← num 4 os
  let (guest, os) ← num 4 os
  some (⟨profile, ctrl, store, exch, guest⟩, os)

/-- CUTOVER-AT (R172). -/
def cutoverAtBody : Parse CutoverAtArgs := fun os => do
  let (time, os) ← num 4 os
  let (drain, os) ← optional (num 4) os
  some (⟨time, drain⟩, os)

/-- FAULT-CLEAR (R185). -/
def faultClearBody : Parse FaultClearArgs := fun os => do
  let (domain, os) ← num 1 os
  let (seq, os) ← num 2 os
  some (⟨domain, seq⟩, os)

/-- The command of a request frame: its kind number (R178), its tag and its body. A kind that no request has is UNKNOWN_KIND (R180).
`mem` is what the attached memory will answer to the reads the request makes. The octets of the unset form of PORTAL-SET (R132) and of the
unused form of KIND-SET (R130) are DESIGN CHOICE, log 70. -/
def decodeRequest (kind tag : Nat) (b : List Octet) (mem : MemFaults) : Instr :=
  match kind with
  | 1 => .itemPut tag (whole itemPutBody b) mem
  | 2 => .itemPrice tag (whole itemPriceBody b) mem
  | 3 => .itemDelete tag (whole (num 8) b) mem
  | 4 => .itemGet tag (whole (num 8) b) mem
  | 5 => .itemBlock tag (whole (num 8) b)
  | 6 => .itemUnblock tag (whole (num 8) b)
  | 7 => .lagAccept tag (whole (num 8) b) mem
  | 8 => .taxSet tag (whole taxBody b)
  | 9 => .priceParams tag (whole (num 4) b)
  | 10 => .rosterSet tag (whole rosterBody b)
  | 11 => .tillStatus tag (whole (num 2) b)
  | 12 => .tillLockout tag (whole (num 2) b)
  | 13 => .tillRelease tag (whole (num 2) b)
  | 14 => .tillClear tag (whole (num 2) b) mem
  | 15 => .tillParams tag (whole tillParamsBody b) mem
  | 16 => .journalStatus tag b.isEmpty
  | 17 => .journalRead tag (whole journalReadBody b) mem
  | 18 => .labelAdd tag (whole labelAddBody b)
  | 19 => .labelBind tag (whole labelBindBody b)
  | 20 => .labelUnbind tag (whole addrField b)
  | 21 => .labelRemove tag (whole addrField b)
  | 22 => .labelGet tag (whole addrField b)
  | 23 => .railSet tag (whole railSetBody b)
  | 24 => .labelParams tag (whole labelParamsBody b)
  | 25 => .templateBegin tag (whole (num 2) b)
  | 26 => .templateElement tag (whole elementBody b)
  | 27 => .templateEnd tag b.isEmpty
  | 28 => .templateCancel tag b.isEmpty
  | 29 => .templateDelete tag (whole (num 2) b)
  | 30 => .templateKeep tag (whole (num 2) b)
  | 31 => .templateTemp tag (whole (num 2) b)
  | 32 => .overlaySet tag (whole overlayBody b)
  | 33 => .overlayClear tag (whole (num 2) b)
  | 34 => .rangeSet tag (whole rangeBody b)
  | 35 => .rangeClear tag (whole (num 2) b)
  | 36 => .policySet tag (whole policyBody b)
  | 37 => .kindSet tag (whole kindBody b)
  | 38 => .hintSet tag (whole hintBody b)
  | 39 => .portalSet tag (whole (optional portalField) b)
  | 40 => .guestService tag (whole guestServiceBody b)
  | 41 => .guestAdmit tag (whole guestAdmitBody b)
  | 42 => .guestBar tag (whole hwField b)
  | 43 => .guestEnd tag (whole hwField b)
  | 44 => .guestGet tag (whole (optional hwField) b)
  | 45 => .profileSet tag (whole profileBody b)
  | 46 => .uplinkStatus tag b.isEmpty
  | 47 => .blockSize tag (whole (num 1) b)
  | 48 => .exchangeStart tag (whole textField b)
  | 49 => .exchangeAbort tag b.isEmpty
  | 50 => .exchangeStatus tag b.isEmpty
  | 51 => .cutoverAt tag (whole cutoverAtBody b)
  | 52 => .cutoverNow tag (whole (optional (num 4)) b)
  | 53 => .clockSet tag (whole (num 4) b)
  | 54 => .identify tag b.isEmpty
  | 55 => .faultRead tag (whole (num 1) b)
  | 56 => .faultClear tag (whole faultClearBody b)
  | 57 => .reset tag (whole (num 1) b)
  | k => .unknownKind tag k

/-! ### The receive side of the Message Port (R177, R179) -/

/-- Where the receiver stands between two octets: at a place where a frame should begin, in a run of octets that a frame error
discards, or inside a frame, whose octets after the start marker are held in order. -/
inductive Receiver
  | ready
  | discarding
  | inFrame (octets : List Octet)
  deriving DecidableEq, Repr

/-- A frame whose octets after the start marker have all arrived: its check, its tag, and then its kind (R179, R180). -/
def judgeFrame (os : List Octet) (mem : MemFaults) : Instr :=
  let covered := os.take (os.length - 2)
  if (crc covered).toNat ≠ ofOctets (os.drop (os.length - 2)) then .frameError .check
  else if ofOctets ((os.drop 3).take 1) = 0 then .frameError .tag
  else decodeRequest (ofOctets ((os.drop 2).take 1)) (ofOctets ((os.drop 3).take 1)) (covered.drop 4) mem

/-- One octet inside a frame (R177, R179). -/
def receiveInFrame (os : List Octet) (mem : MemFaults) : Receiver × Option Instr :=
  if os.length < 2 then (.inFrame os, none)
  else if 1020 < ofOctets (os.take 2) then (.discarding, some (.frameError .length))
  else if os.length < ofOctets (os.take 2) + 6 then (.inFrame os, none)
  else (.ready, some (judgeFrame os mem))

/-- One octet that the host writes (R179). -/
def receiveOctet (r : Receiver) (o : Octet) (mem : MemFaults) : Receiver × Option Instr :=
  match r with
  | .ready => if o = 165 then (.inFrame [], none) else (.discarding, some (.frameError .sync))
  | .discarding => if o = 165 then (.inFrame [], none) else (.discarding, none)
  | .inFrame os => receiveInFrame (os ++ [o]) mem

/-- The commands that a run of octets from the host amounts to, and where the receiver then stands (R179). DESIGN CHOICE, log 32. -/
def receive (mem : MemFaults) : Receiver → List Octet → Receiver × List Instr
  | r, [] => (r, [])
  | r, o :: os =>
    ((receive mem (receiveOctet r o mem).1 os).1,
     (receiveOctet r o mem).2.toList ++ (receive mem (receiveOctet r o mem).1 os).2)

/-! ### Lane messages (R41, R42) -/

/-- The fields of a till's message after its kind and lane (R41). A presence octet other than 0 and 1 leaves it undecodable, and a kind that
only the part sends is unknown. DESIGN CHOICE, logs 51 and 87. -/
def laneFields (src : HwAddr) (mem : MemFaults) (kind lane : Nat) (os : List Octet) : Option Instr :=
  match kind with
  | 1 => do
    let (t, _) ← textField os
    some (.laneJoin src lane t)
  | 2 => do
    let (drawer, os) ← flag os
    let (printer, os) ← flag os
    let (service, os) ← flag os
    let (basket, _) ← flag os
    some (.laneStatus src lane ⟨drawer, printer, service, basket⟩)
  | 3 => do
    let (msg, _) ← num 1 os
    some (.laneOpen src lane msg)
  | 4 => do
    let (msg, os) ← num 1 os
    let (code, os) ← num 8 os
    let (quantity, os) ← num 4 os
    let (keyed, _) ← optional (num 4) os
    some (.laneAsk src lane msg code quantity keyed mem)
  | 5 => do
    let (msg, os) ← num 1 os
    let (line, _) ← num 1 os
    some (.laneVoid src lane msg line)
  | 6 => do
    let (msg, os) ← num 1 os
    let (tender, _) ← num 1 os
    some (.laneClose src lane msg tender mem)
  | 7 => do
    let (msg, _) ← num 1 os
    some (.laneCancel src lane msg mem)
  | _ => none

/-- The command of a lane-protocol frame; octets after the message are padding (log 15). -/
def decodeLane (src : HwAddr) (os : List Octet) (mem : MemFaults) : Instr :=
  match os with
  | k :: lane :: rest => (laneFields src mem k.toNat lane.toNat rest).getD .laneMessageMalformed
  | _ => .laneMessageMalformed

/-! ### Datagrams from head office (R159) -/

/-- The part of a change entry that ADD and CHANGE carry. -/
def detailField : Parse RawDetail := fun os => do
  let (desc, os) ← textField os
  let (band, os) ← num 1 os
  let (price, os) ← priceField batchWidths os
  some (⟨desc, band, price⟩, os)

/-- A change entry; one of an unknown kind has no more than its kind and code (log 15). -/
def changeField : Parse RawChange := fun os => do
  let (kind, os) ← num 1 os
  let (code, os) ← num 8 os
  if kind ≤ 1 then
    let (d, os) ← detailField os
    some (⟨kind, code, some d⟩, os)
  else some (⟨kind, code, none⟩, os)

/-- The fields of a datagram after its kind and session number. The octets of batch id, part number and ABORT's reason are DESIGN CHOICE,
log 97. -/
def datagramFields (mem : MemFaults) (kind session : Nat) (os : List Octet) : Option (Instr × List Octet) :=
  match kind with
  | 5 => some (.accept session mem, os)
  | 6 => do
    let (n, os) ← num 4 os
    some (.jack session n mem, os)
  | 7 => do
    let (batch, os) ← num 4 os
    let (epoch, os) ← num 4 os
    let (count, os) ← num 2 os
    let (check, os) ← num 2 os
    some (.bhead session batch epoch count check, os)
  | 8 => do
    let (part, os) ← num 2 os
    let (n, os) ← num 1 os
    let (es, os) ← times changeField n os
    let (last, os) ← flag os
    some (.bpart session part es last, os)
  | 9 => do
    let (reason, os) ← num 1 os
    some (.peerAbort session reason, os)
  | _ => none

/-- The command of an exchange datagram, STRAY_DATAGRAM where it cannot be decoded (R159). -/
def decodeDatagram (os : List Octet) (mem : MemFaults) : Instr :=
  match num 1 os with
  | none => .strayDatagram
  | some (k, os) => match num 2 os with
    | none => .strayDatagram
    | some (n, os) => (whole (datagramFields mem k n) os).getD .strayDatagram

end Sys2Proof.Machine
end

