-- ==== Sys2Proof/Machine/Flags.lean ====
section
/-! DEFINITION. The flags and counts the spec keeps in step with other state: the pending-label count with its lag fields and
previous record (R7, R8), the journal's page counts and report flags (R69, R71, R72), the rank of reasons (R79). -/

namespace Sys2Proof.Machine

/-! ### The pending-label count (R7, R8) -/

/-- Is this label counted: not EXCLUDED and its confirmed version another than the item's (R7)? -/
def BoundLabel.counted (version : Nat) (l : BoundLabel) : Bool := !l.excluded && l.confirmed != some version

/-- The pending-label count that a record's labels and version give (R7). -/
def ItemRecord.pendingCount (r : ItemRecord) : Nat := (r.labels.filter (·.counted r.version)).length

/-- A recomputation of the count, with the lag fields as R7 moves them. -/
def ItemRecord.recount (now : Nat) (r : ItemRecord) : ItemRecord :=
  { r with
    count := r.pendingCount
    lagStart := if r.pendingCount = 0 then none else if r.count = 0 then some now else r.lagStart
    lagReported := if r.pendingCount = 0 ∨ r.count = 0 then false else r.lagReported }

/-- The previous record after the count moves without a change of current: gone at 0, a copy of current when raised from 0,
else unchanged (R8; the copy's version by R31). -/
def previousAfter (oldCount newCount version : Nat) (current : Option PriceRecord) (previous : Option Previous) : Option Previous :=
  if newCount = 0 then none
  else if oldCount = 0 then current.map fun c => ⟨c, version⟩
  else previous

/-- A change of a record's labels or marks, the count recomputed and previous kept by R8, as one change. -/
def ItemRecord.relabel (now : Nat) (labels : List BoundLabel) (r : ItemRecord) : ItemRecord :=
  let r' := ItemRecord.recount now { r with labels := labels }
  { r' with previous := previousAfter r.count r'.count r.version r.current r.previous }

/-- Is an item due for a lag report (R11)? -/
def ItemRecord.lagDue (now limit : Nat) (r : ItemRecord) : Bool :=
  !r.lagReported && match r.lagStart with | some l => decide (l + limit ≤ now) | none => false

/-! ### The journal's page counts and flags -/

/-- The pages going forward from one pointer to another; at one position, none or the whole ring as the sequences agree (R69). -/
def pagesBetween (p q : JournalPtr) : Nat :=
  if p.pos = q.pos then (if p.seq = q.seq then 0 else ringPages) else (q.pos + ringPages - p.pos) % ringPages

/-- Pages held (R69). -/
def Journal.held (j : Journal) : Nat := pagesBetween j.oldest j.append

/-- Pages of acknowledged records still held (R69). -/
def Journal.reclaimable (j : Journal) : Nat := pagesBetween j.oldest j.mark

/-- Pages not uploaded (R69). -/
def Journal.unuploaded (j : Journal) : Nat := pagesBetween j.mark j.append

/-- Pages free (R69). -/
def Journal.free (j : Journal) : Nat := ringPages - j.held

/-- The space available to an append (R69). -/
def Journal.space (j : Journal) : Nat := ringPages - j.unuploaded

/-- The high-water level, 117,965 pages (R72). -/
def highWater : Nat := 117965

/-- The re-arm level, 104,858 pages (R72). -/
def rearmLevel : Nat := 104858

/-- The size of the largest record, at which the full-report flag is set again (R71). -/
def largestRecord : Nat := 51

/-- The report flags after an acknowledgement notice: high-water below the re-arm level, full-report at 51 pages of space (R71, R72). -/
def Journal.rearm (j : Journal) : Journal :=
  { j with
    highArmed := j.highArmed || decide (j.unuploaded < rearmLevel)
    fullArmed := j.fullArmed || decide (largestRecord ≤ j.space) }

/-! ### Reasons -/

/-- PRICE above BIND above TEMPLATE (R79). -/
def Reason.rank : Reason → Nat
  | .price => 3
  | .bind => 2
  | .template => 1

/-- The higher of two reasons. -/
def Reason.max (a b : Reason) : Reason := if a.rank < b.rank then b else a

/-- The higher of a reason that may be absent and another; an absent reason ranks below all (R79). -/
def raise (a : Option Reason) (b : Reason) : Reason := match a with | none => b | some x => x.max b

/-- The higher of two reasons that may be absent. -/
def raiseOpt (a b : Option Reason) : Option Reason := match b with | none => a | some y => some (raise a y)

end Sys2Proof.Machine
end

