-- ==== Sys2Proof/Machine/Prices.lean ====
section
/-! DEFINITION. The Price Computation Unit (02): lines, closes, reference amounts and label figures, on exact natural numbers (R24). -/

namespace Sys2Proof.Machine

/-- Stage 1, the base amount (R27). -/
def baseAmount (r : PriceRecord) (q : Nat) : Nat :=
  match r.mode with
  | .each => r.unit * q
  | .byWeight => roundDiv (r.unit * q) 1000

/-- The discount of stage 2 on a base amount (R28). -/
def lineDiscount (r : PriceRecord) (q base : Nat) : Nat :=
  match r.promo, r.mode with
  | .noPromo, _ => 0
  | .percent t, _ => roundDiv (base * t) 1000
  | .fixedOff f, .each => min base (f * q)
  | .fixedOff f, .byWeight => min base f
  | .multibuy _ _, _ => 0

/-- Stages 1 and 2: the line amount L (R28). -/
def lineAmount (r : PriceRecord) (q : Nat) : Nat := baseAmount r q - lineDiscount r q (baseAmount r q)

/-- The quantity of a reference amount: 1, or 1,000 g (R9). -/
def referenceQuantity : PriceMode → Nat
  | .each => 1
  | .byWeight => 1000

/-- The reference amount of the keeping rule, and the shelf price (R9, R37). -/
def referenceAmount (r : PriceRecord) : Nat := lineAmount r (referenceQuantity r.mode)

/-- A quantity in the range of a mode (R26). -/
def quantityOk : PriceMode → Nat → Bool
  | .each, q => decide (1 ≤ q) && decide (q ≤ 999)
  | .byWeight, q => decide (1 ≤ q) && decide (q ≤ 99999)

/-- A line answer (R31). -/
structure LineAnswer where
  amount   : Nat
  used     : RecordUsed
  version  : Option Nat
  labelLag : Bool
  terms    : Terms
  deriving DecidableEq, Repr

/-- The terms a line carries from a record (R31). -/
def PriceRecord.terms (r : PriceRecord) : Terms := ⟨r.unit, r.mode, r.promo⟩

/-- The basket limit on a line answer (R33). -/
def withinBasket (running : Nat) (a : LineAnswer) : Except TillRefusal LineAnswer :=
  if running + a.amount ≤ maxAmount then .ok a else .error .basketLimit

/-- Stage 4: the lower of current and a previous of the same mode within the limit, a tie to current (R30). -/
def chooseLine (current : PriceRecord) (version : Nat) (previous : Option Previous) (q : Nat) : LineAnswer :=
  let fromCurrent : LineAnswer := ⟨lineAmount current q, .current, some version, previous.isSome, current.terms⟩
  match previous with
  | none => fromCurrent
  | some p =>
    if p.record.mode = current.mode ∧ lineAmount p.record q ≤ maxAmount ∧ lineAmount p.record q < lineAmount current q
    then ⟨lineAmount p.record q, .previous, some p.version, true, p.record.terms⟩
    else fromCurrent

/-- A line computation with its refusals in the order of R33 (R26 to R31). -/
def computeLine (current : PriceRecord) (version : Nat) (previous : Option Previous) (q running : Nat) :
    Except TillRefusal LineAnswer :=
  if quantityOk current.mode q then
    if lineAmount current q ≤ maxAmount then withinBasket running (chooseLine current version previous q)
    else .error .overLimit
  else .error .badQuantity

/-- An open line (R32, R33). Mode EACH and promotion form NONE in its carried terms are DESIGN CHOICE, log 98. -/
def computeOpenLine (keyed q running : Nat) : Except TillRefusal LineAnswer :=
  if quantityOk .each q then
    if keyed ≤ maxAmount ∧ keyed * q ≤ maxAmount then
      withinBasket running ⟨keyed * q, .openPrice, none, false, ⟨keyed, .each, .noPromo⟩⟩
    else .error .overLimit
  else .error .badQuantity

/-! ### Closing a basket: stages 5 and 6 -/

/-- The sum of the amounts of the lines that are not voided (R33, R49). -/
def runningTotal (lines : List Line) : Nat := ((lines.filter fun l => !l.voided).map (·.amount)).sum

/-- What the lines of one multi-buy group share (R34). -/
structure GroupKey where
  code    : Nat
  version : Option Nat
  band    : Nat
  terms   : Terms
  deriving DecidableEq, Repr

/-- The group a line falls into. -/
def Line.groupKey (l : Line) : GroupKey := ⟨l.code, l.version, l.band, l.terms⟩

/-- A line that takes part in a group: not voided, and MULTIBUY in its carried terms (R34). -/
def Line.grouped (l : Line) : Bool :=
  !l.voided && match l.terms.promo with | .multibuy _ _ => true | _ => false

/-- The quantity N of a group (R34). -/
def groupQuantity (lines : List Line) (k : GroupKey) : Nat :=
  ((lines.filter fun l => l.grouped && l.groupKey == k).map (·.quantity)).sum

/-- The discount of a group, absent where it is 0 (R34). -/
def groupDiscount (lines : List Line) (k : GroupKey) : Option GroupDiscount :=
  match k.terms.promo with
  | .multibuy n p =>
    let g := groupQuantity lines k / n
    let d := g * (n * k.terms.unit - p)
    if d = 0 then none else some ⟨k.code, k.version, k.band, g, d⟩
  | _ => none

/-- Stage 5: the listed group discounts, in order of the lowest line number of each group (R34). -/
def groupDiscounts (lines : List Line) : List GroupDiscount :=
  (distinct ((lines.filter (·.grouped)).map (·.groupKey))).filterMap (groupDiscount lines)

/-- The basket total T (R35). -/
def basketTotal (lines : List Line) : Nat := runningTotal lines - ((groupDiscounts lines).map (·.discount)).sum

/-- The band amount A_b (R35). -/
def bandAmount (lines : List Line) (b : Nat) : Nat :=
  runningTotal (lines.filter fun l => l.band == b) - (((groupDiscounts lines).filter fun g => g.band == b).map (·.discount)).sum

/-- The tax content of a band amount at a rate in hundredths of a percent (R36). -/
def taxContent (amount rate : Nat) : Nat := roundDiv (amount * rate) (10000 + rate)

/-- Stage 6: one entry for each band with an amount, in ascending order (R36). -/
def bandTaxes (rates : Vector Nat 8) (lines : List Line) : List BandTax :=
  (List.range 8).filterMap fun b =>
    if bandAmount lines b = 0 then none else some ⟨b, bandAmount lines b, taxContent (bandAmount lines b) (tget rates b 0)⟩

/-! ### Figures for the shelf label -/

/-- The amount L1 the comparison price starts from (R38). -/
def comparisonBase (r : PriceRecord) : Nat :=
  match r.mode, r.promo with
  | .each, .percent _ => lineAmount r 1
  | .each, .fixedOff _ => lineAmount r 1
  | _, _ => r.unit

/-- The comparison price C; none for basis NONE, and for PER_ITEM with BY_WEIGHT, which validation refuses (R38). -/
def comparisonPrice (r : PriceRecord) : Option Nat :=
  let k := r.pack.getD 1
  match r.mode, r.basis with
  | _, .noBasis => none
  | .each, .perKg => some (roundDiv (comparisonBase r * 1000) k)
  | .each, .perLitre => some (roundDiv (comparisonBase r * 1000) k)
  | .each, .per100g => some (roundDiv (comparisonBase r * 100) k)
  | .each, .perItem => some (roundDiv (comparisonBase r) k)
  | .byWeight, .perKg => some r.unit
  | .byWeight, .perLitre => some r.unit
  | .byWeight, .per100g => some (roundDiv r.unit 10)
  | .byWeight, .perItem => none

/-- The comparison field: the figure up to 99,999, else OVERFLOW (R38). -/
def comparisonField (r : PriceRecord) : Option Comparison :=
  (comparisonPrice r).map fun c => ⟨r.basis, if c ≤ 99999 then some c else none⟩

/-- The badge of a MULTIBUY record (R37). -/
def badgeOf (r : PriceRecord) : Option Badge :=
  match r.promo with
  | .multibuy n p => some ⟨n, p / 100, p % 100⟩
  | _ => none

/-- The figures a label shows of a current record (R37, R38). -/
def labelFigures (r : PriceRecord) : LabelFigures :=
  ⟨referenceAmount r / 100, referenceAmount r % 100, r.mode == .byWeight, badgeOf r, comparisonField r⟩

end Sys2Proof.Machine
end

