-- ==== Sys2Proof/Machine/JournalOps.lean ====
section
/-! DEFINITION. The Sales Journal's own operations: page counts, pages and their checks, append with reclaim, block reads and
acknowledgement notices (04). -/

namespace Sys2Proof.Machine

/-- The kind of a record's contents (R64). -/
def JournalContent.kind : JournalContent → JournalKind
  | .sale _ _ _ => .sale
  | .void _ _ => .void
  | .abandon _ _ _ => .abandon
  | .price _ _ _ _ => .price
  | .lag _ _ => .lag

/-- The entries a record lists, in their order (R65). -/
def JournalContent.entries : JournalContent → List JournalEntry
  | .sale _ lines groups => lines.map .line ++ groups.map .group
  | .void _ lines => lines.map .line
  | .abandon _ _ lines => lines.map .line
  | .price _ _ _ _ => []
  | .lag _ _ => []

/-- The page count: a header page and entry pages of eight (R65). -/
def JournalContent.pageCount (c : JournalContent) : Nat := 1 + ceilDiv c.entries.length 8

/-- A ring position moved forward (R64). -/
def forward (pos n : Nat) : Nat := (pos + n) % ringPages

/-- How far one ring position lies beyond another, going forward. -/
def ringDistance (from_ to_ : Nat) : Nat := (to_ + ringPages - from_) % ringPages

/-- The pointer just past a record: the next position and the next sequence (R64). -/
def JournalRecord.next (r : JournalRecord) : JournalPtr := ⟨forward r.pos r.pages, next32 r.seq⟩

/-- The content of a page whose check passes, in a record whose DAMAGED mark is as given (R65 to R68). -/
def JournalContent.page (c : JournalContent) (damaged : Bool) (index : Nat) : PageBody :=
  match index, c with
  | 0, .sale h lines groups => .saleHeader (some h) lines.length groups.length damaged
  | 0, .void h lines => .basketHeader (some h) lines.length none
  | 0, .abandon h cause lines => .basketHeader (some h) lines.length (some cause)
  | 0, c => .whole (some c)
  | i + 1, c => .entries (((c.entries.drop (8 * i)).take 8).map some)

/-- The content of a page whose check fails: header fields, each entry, or the whole given as absent (R75). -/
def PageBody.emptied : PageBody → PageBody
  | .saleHeader _ _ _ _ => .saleHeader none 0 0 false
  | .basketHeader _ _ _ => .basketHeader none 0 none
  | .entries es => .entries (es.map fun _ => none)
  | .whole _ => .whole none

/-- Does the check of a page fail at this read: found failing before, or failing now (R75, R76)? -/
def JournalRecord.pageFails (mem : MemFaults) (index : Nat) (r : JournalRecord) : Bool :=
  r.badPages.contains index || mem.pages.contains (r.seq, index)

/-- A record after one of its pages is read: a failure is kept, and the first sets the DAMAGED mark (R75). -/
def JournalRecord.afterRead (mem : MemFaults) (index : Nat) (r : JournalRecord) : JournalRecord :=
  if r.pageFails mem index then
    { r with damaged := true, badPages := if r.badPages.contains index then r.badPages else r.badPages ++ [index] }
  else r

/-- The content of a page as the journal gives it at a read (R75). -/
def JournalRecord.readPage (mem : MemFaults) (index : Nat) (r : JournalRecord) : PageBody :=
  if r.pageFails mem index then (r.content.page r.damaged index).emptied else r.content.page r.damaged index

/-- Is this the first failure of a record: fault 503 is logged (R75)? -/
def JournalRecord.firstFailure (mem : MemFaults) (index : Nat) (r : JournalRecord) : Bool :=
  !r.damaged && r.pageFails mem index

/-- The part after a page of a held record is read for its check (R75). -/
def checkPage (mem : MemFaults) (r : JournalRecord) (index : Nat) (s : State) : State :=
  let s := if r.firstFailure mem index then s.logFault .memory 503 (.journalPage r.seq index) else s
  { s with jnl := { s.jnl with records := s.jnl.records.map fun x => if x.seq = r.seq then x.afterRead mem index else x } }

/-! ### Append (R70 to R72) -/

/-- One reclaim: the oldest record's header page is read with its frame and checked, then the oldest pointer passes it (R70, R75;
that the header page is the one read is DESIGN CHOICE, log 10). -/
def reclaimOne (mem : MemFaults) (s : State) : State :=
  match s.jnl.records with
  | [] => s
  | r :: _ =>
    let s := checkPage mem r 0 s
    { s with jnl := { s.jnl with records := s.jnl.records.tail, oldest := r.next } }

/-- Reclaim acknowledged records, oldest first, until the free pages are enough (R70, step 2). The fuel bounds the records there are. -/
def reclaim (mem : MemFaults) (need : Nat) : Nat → State → State
  | 0, s => s
  | fuel + 1, s => if need ≤ s.jnl.free ∨ s.jnl.oldest = s.jnl.mark then s else reclaim mem need fuel (reclaimOne mem s)

/-- A refused append: counted, and reported while armed (R71). -/
def refuseAppend (c : JournalContent) (s : State) : State :=
  let j := { s.jnl with fullRefusals := bump max16 s.jnl.fullRefusals }
  if j.fullArmed then
    State.report (.journalFull c.kind c.pageCount j.unuploaded j.free) { s with jnl := { j with fullArmed := false } }
  else { s with jnl := j }

/-- Write a record at the append point (R70, step 3). -/
def writeRecord (c : JournalContent) (s : State) : State :=
  let r : JournalRecord := ⟨s.jnl.append.seq, s.jnl.append.pos, c.pageCount, s.now, s.msp.clock.isSet, false, [], c⟩
  { s with jnl := { s.jnl with records := s.jnl.records ++ [r], append := r.next } }

/-- The high-water report after an accepted append (R72), and after a warm start (R78). -/
def judgeHighWater (s : State) : State :=
  if s.jnl.highArmed && decide (highWater ≤ s.jnl.unuploaded) then
    State.report (.journalHigh s.jnl.unuploaded s.jnl.free s.jnl.mark.seq) { s with jnl := { s.jnl with highArmed := false } }
  else s

/-- Is there room for a record (R70, step 1)? -/
def Journal.fits (c : JournalContent) (j : Journal) : Bool := decide (c.pageCount ≤ j.space)

/-- The part after an append that fits. -/
def acceptAppend (mem : MemFaults) (c : JournalContent) (s : State) : State :=
  judgeHighWater (writeRecord c (reclaim mem c.pageCount s.jnl.records.length s))

/-- An append: the sequence taken, or none where the journal answers FULL (R70). -/
def journalAppend (mem : MemFaults) (c : JournalContent) (s : State) : State × Option Nat :=
  if s.jnl.fits c then (acceptAppend mem c s, some s.jnl.append.seq) else (refuseAppend c s, none)

/-! ### Upload: limit, block reads, acknowledgement (R73, R74) -/

/-- Open an upload limit at the append point (R73). -/
def openLimit (s : State) : State := { s with jnl := { s.jnl with limit := some s.jnl.append } }

/-- The session has left UPLOAD: the limit is cleared (R73). -/
def clearLimit (s : State) : State := { s with jnl := { s.jnl with limit := none } }

/-- The held record that owns a ring position (R64). -/
def Journal.owner (j : Journal) (pos : Nat) : Option JournalRecord :=
  j.records.find? fun r => decide (ringDistance r.pos pos < r.pages)

/-- The page at a ring position as a block read gives it, with the part after its check (R73, R75). Its indication is the page's own;
the record's mark stands among a SALE's header flags (R66). -/
def readRingPage (mem : MemFaults) (pos : Nat) (s : State) : State × List PageView :=
  match s.jnl.owner pos with
  | none => (s, [])
  | some r =>
    let i := ringDistance r.pos pos
    (checkPage mem r i s, [⟨pos, r.seq, r.content.kind, r.pages, i, r.pageFails mem i, r.readPage mem i⟩])

/-- `n` pages from a ring position, in ring order. -/
def readRingPages (mem : MemFaults) : Nat → Nat → State → State × List PageView
  | 0, _, s => (s, [])
  | n + 1, pos, s =>
    let (s, p) := readRingPage mem pos s
    let (s, ps) := readRingPages mem n (forward pos 1) s
    (s, p ++ ps)

/-- A block read: none outside the span from the upload mark to the limit, else the pages from `start`, at most `n`, up to the limit (R73). -/
def blockRead (mem : MemFaults) (start n : Nat) (s : State) : State × Option (List PageView) :=
  match s.jnl.limit with
  | none => (s, none)
  | some lim =>
    let span := pagesBetween s.jnl.mark lim
    let d := ringDistance s.jnl.mark.pos start
    if d < span then
      let (s, ps) := readRingPages mem (min n (span - d)) start s
      (s, some ps)
    else (s, none)

/-- The mark moved over each record whose last page lies within `n` pages; the new mark and the number passed (R74, step 2). -/
def passRecords : List JournalRecord → Nat → JournalPtr → JournalPtr × Nat
  | [], _, m => (m, 0)
  | r :: rs, n, m => if r.pages ≤ n then
      let (m', k) := passRecords rs (n - r.pages) r.next
      (m', k + 1)
    else (m, 0)

/-- The held records at or after the upload mark. -/
def Journal.unacknowledged (j : Journal) : List JournalRecord := j.records.dropWhile fun r => r.seq != j.mark.seq

/-- An acknowledgement notice with an extent: ignored outside the span, else the mark advances and the flags are judged (R74). -/
def acknowledge (extent : Nat) (s : State) : State :=
  match s.jnl.limit with
  | none => s
  | some lim =>
    let d := ringDistance s.jnl.mark.pos extent
    if d ≤ pagesBetween s.jnl.mark lim then
      { s with jnl := Journal.rearm { s.jnl with mark := (passRecords s.jnl.unacknowledged d s.jnl.mark).1 } }
    else s

/-- Does a held record lie before the upload mark (R76)? -/
def Journal.isAcknowledged (j : Journal) (r : JournalRecord) : Bool :=
  decide (ringDistance j.oldest.pos r.pos < j.reclaimable)

end Sys2Proof.Machine
end

