-- ==== Sys2Proof/Machine/LabelOps.lean ====
section
/-! DEFINITION. The Label Radio Controller's own operations: the directory, the Update Queue, causes, the notices it takes from the
Item Table and the Template Store, wakes and windows (05). -/

namespace Sys2Proof.Machine

/-- The place of a label address in ascending order (R79). -/
def addrKey (a : LabelAddr) : Nat := a.rail * 24 + a.slot

/-- The key of a directory entry. -/
def LabelEntry.key (e : LabelEntry) : Nat := addrKey e.addr

/-- The directory entry at an address (R79). -/
def LabelRadio.entry (a : LabelAddr) (l : LabelRadio) : Option LabelEntry := findKey LabelEntry.key (addrKey a) l.directory

/-- The directory with an entry put at its address. -/
def LabelRadio.put (e : LabelEntry) (l : LabelRadio) : LabelRadio := { l with directory := putKey LabelEntry.key e l.directory }

/-- A queue entry joins at the tail (R84). -/
def LabelRadio.join (now : Nat) (a : LabelAddr) (r : Reason) (k : Attempt) (l : LabelRadio) : LabelRadio :=
  { l with queue := l.queue ++ [⟨a, r, k, now, l.nextSerial⟩], nextSerial := l.nextSerial + 1 }

/-- A label's queue entry leaves (R84). -/
def LabelRadio.leave (a : LabelAddr) (l : LabelRadio) : LabelRadio := { l with queue := l.queue.filter fun q => q.addr != a }

/-- A queue entry takes a reason and keeps its position and attempt kind (R84). -/
def LabelRadio.setReason (a : LabelAddr) (r : Reason) (l : LabelRadio) : LabelRadio :=
  { l with queue := l.queue.map fun q => if q.addr = a then { q with reason := r } else q }

/-- The queue entry of a label. -/
def LabelRadio.queued (a : LabelAddr) (l : LabelRadio) : Option QueueEntry := l.queue.find? fun q => q.addr == a

/-- A queue entry returns to its former position (R83): entries stand in the order of their joins. -/
def restoreEntry (q : QueueEntry) : List QueueEntry → List QueueEntry
  | [] => [q]
  | x :: xs => if q.serial < x.serial then q :: x :: xs else x :: restoreEntry q xs

/-- A label enters QUEUED with an entry at the tail, owing the reason (R85, R90, R92, R95). -/
def LabelRadio.enqueue (now : Nat) (e : LabelEntry) (r : Reason) (k : Attempt) (l : LabelRadio) : LabelRadio :=
  (l.put { e with state := .queued, owed := some r }).join now e.addr r k

/-- A cause reaches a label (R85). -/
def LabelRadio.cause (now : Nat) (r : Reason) (a : LabelAddr) (l : LabelRadio) : LabelRadio :=
  match l.entry a with
  | none => l
  | some e => match e.state with
    | .new => (l.put { e with owed := some (raise e.owed r) }).setReason a (raise e.owed r)
    | .queued => (l.put { e with owed := some (raise e.owed r) }).setReason a (raise e.owed r)
    | .idle => l.enqueue now e r .first
    | .sent => l.put { e with requeue := some (raise e.requeue r), lastSend := if r = .bind then none else e.lastSend }
    | .missing => l.put { e with owed := some (raise e.owed r) }

/-- A cause reaches each of a list of labels, in order. -/
def LabelRadio.causes (now : Nat) (r : Reason) (as : List LabelAddr) (l : LabelRadio) : LabelRadio :=
  as.foldl (fun l a => l.cause now r a) l

/-- Does the entry at an address name this item? -/
def LabelRadio.names (code : Nat) (l : LabelRadio) (a : LabelAddr) : Bool :=
  match l.entry a with | some e => e.item == some code | none => false

/-- The version notice: reason PRICE to each bound label, in the order of the item's list (R86). -/
def LabelRadio.versionNotice (now code : Nat) (as : List LabelAddr) (l : LabelRadio) : LabelRadio :=
  l.causes now .price (as.filter (l.names code))

/-- A label's binding is taken away: no item, not EXCLUDED, and a cause of reason BIND; the template is kept (R86). -/
def LabelRadio.loseItem (now : Nat) (a : LabelAddr) (l : LabelRadio) : LabelRadio :=
  match l.entry a with
  | none => l
  | some e => (l.put { e with item := none, excluded := false }).cause now .bind a

/-- The removal notice, for each label bound to the item (R86). The order of the bound-label list is DESIGN CHOICE, log 88. -/
def LabelRadio.removalNotice (now code : Nat) (as : List LabelAddr) (l : LabelRadio) : LabelRadio :=
  (as.filter (l.names code)).foldl (fun l a => l.loseItem now a) l

/-- Does the exclusion order mark this entry: bound to the item, its confirmed version another than the item's (R86)? -/
def LabelEntry.lags (code version : Nat) (e : LabelEntry) : Bool := e.item == some code && e.confirmed != some version

/-- The exclusion order: the lagging labels marked, and how many newly (R86). -/
def LabelRadio.exclude (code version : Nat) (l : LabelRadio) : LabelRadio × Nat :=
  ({ l with directory := l.directory.map fun e => if e.lags code version then { e with excluded := true } else e },
   (l.directory.filter fun e => e.lags code version && !e.excluded).length)

/-- The overlay notice: reason TEMPLATE to every entry on a range of rails, in ascending order of address (R87). -/
def LabelRadio.overlayNotice (now first last : Nat) (l : LabelRadio) : LabelRadio :=
  l.causes now .template ((l.directory.filter fun e => decide (first ≤ e.addr.rail) && decide (e.addr.rail ≤ last)).map (·.addr))

/-- The rebind notice: template 0 and a cause of reason BIND (R87). -/
def LabelRadio.rebindNotice (now : Nat) (a : LabelAddr) (l : LabelRadio) : LabelRadio :=
  match l.entry a with
  | none => l
  | some e => (l.put { e with template := 0 }).cause now .bind a

/-- The labels whose template is a slot (R112, step 3). Ascending address order is DESIGN CHOICE, log 66. -/
def LabelRadio.onTemplate (slot : Nat) (l : LabelRadio) : List LabelAddr :=
  (l.directory.filter fun e => e.template == slot).map (·.addr)

/-- A new entry (R79), with a template and perhaps an item. -/
def LabelEntry.fresh (a : LabelAddr) (item : Option Nat) (template : Nat) : LabelEntry :=
  ⟨a, item, template, .new, none, none, none, false, some .bind, none, none, 0, 0, none, false, none⟩

/-- An entry is created and joins the queue with reason BIND (R79). -/
def LabelRadio.create (now : Nat) (a : LabelAddr) (item : Option Nat) (template : Nat) (l : LabelRadio) : LabelRadio :=
  (l.put (.fresh a item template)).join now a .bind .first

/-! ### Rails, wakes, windows (R81) -/

/-- A rail's entry. -/
def LabelRadio.rail (n : Nat) (l : LabelRadio) : RailEntry := tget l.rails n RailEntry.cold

/-- The interval a wake code gives; none for DORMANT (R81). -/
def interval (code : Nat) : Option Nat :=
  if code = 0 then none else if code ≤ 200 then some code else some ((code - 195) * 60)

/-- The latest wake of a rail at or before a frame, where the rail is not DORMANT and has woken (R81). -/
def latestWake (code rail frame : Nat) : Option Nat :=
  match interval code with
  | none => none
  | some i => if frame < rail % i then none else some (frame - (frame - rail % i) % i)

/-- The wake of the window a frame lies in, where it lies in one: the frame of the wake and the two that follow (R81). -/
def windowWake (code rail frame : Nat) : Option Nat :=
  match latestWake code rail frame with
  | none => none
  | some w => if frame ≤ w + 2 then some w else none

/-- Is the frame one of the rail's wakes (R81)? -/
def isWake (code rail frame : Nat) : Bool := latestWake code rail frame == some frame

/-- Is a rail a poll candidate in a frame (R94)? -/
def pollCandidate (presence frame rail : Nat) (e : RailEntry) : Bool :=
  isWake e.code rail frame && match e.lastPoll with | none => true | some t => decide (t + presence ≤ frame)

/-- Was a rail polled longer ago than another, an absent time the oldest (R94)? -/
def polledBefore (a b : Option Nat) : Bool :=
  match a, b with
  | none, some _ => true
  | some x, some y => decide (x < y)
  | _, none => false

/-- The rail a frame's poll serves: the candidate polled longest ago, a tie to the lower number (R94). -/
def LabelRadio.choosePoll (frame : Nat) (l : LabelRadio) : Option Nat :=
  bestBy (fun a b => polledBefore (l.rail a).lastPoll (l.rail b).lastPoll)
    ((List.range 1024).filter fun r => pollCandidate l.presence frame r (l.rail r))

/-- Is a queue entry eligible in a frame (R88)? The answer is the wake of the window. -/
def LabelRadio.eligibleWake (frame : Nat) (poll : Option Nat) (l : LabelRadio) (q : QueueEntry) : Option Nat :=
  match windowWake (l.rail q.addr.rail).code q.addr.rail frame, l.entry q.addr with
  | some w, some e =>
    if poll = some q.addr.rail then none
    else match e.lastSend with
      | none => some w
      | some ls => if ls.wake = w then none else some w
  | _, _ => none

/-- Two lists taken alternately, the first list first; when one runs out, the rest of the other (R88). -/
def alternate {α : Type} : List α → List α → List α
  | [], ys => ys
  | xs, [] => xs
  | x :: xs, y :: ys => x :: y :: alternate xs ys

/-- The eligible entries of one reason, FIRST and RETRY alternately (R88). -/
def grantOrder (r : Reason) (qs : List QueueEntry) : List QueueEntry :=
  alternate (qs.filter fun q => q.reason == r && q.kind == .first) (qs.filter fun q => q.reason == r && q.kind == .retry)

/-- The entries granted in a frame, in slot order: at most 32, by reason, kind and position (R88). -/
def LabelRadio.granted (frame : Nat) (poll : Option Nat) (l : LabelRadio) : List QueueEntry :=
  let es := l.queue.filter fun q => (l.eligibleWake frame poll q).isSome
  (grantOrder .price es ++ grantOrder .bind es ++ grantOrder .template es).take 32

/-! ### On the whole part -/

/-- An operation of the Label Radio Controller. -/
def State.onLrc (f : LabelRadio → LabelRadio) (s : State) : State := { s with lrc := f s.lrc }

/-- The stale-answer count rises by 1 (R91). -/
def LabelRadio.staleAnswer (l : LabelRadio) : LabelRadio := { l with stale := bump max16 l.stale }

/-- A label enters MISSING, its queue entry gone, and LABEL-MISSING is queued (R92, R95). -/
def enterMissing (cause : MissingCause) (e : LabelEntry) (s : State) : State :=
  State.report (.labelMissing e.addr e.item cause e.lastHeard e.owed)
    (s.onLrc fun l => (l.put { e with state := .missing }).leave e.addr)

end Sys2Proof.Machine
end

