-- ==== Sys2Proof/Machine/ItemOps.lean ====
section
/-! DEFINITION. The Item Table's own operations: the checked read, the change of current with the keeping rule, the notices of the
Label Radio Controller, promotion, pending records and lag reports (01). -/

namespace Sys2Proof.Machine

/-- The record of a code (R1). -/
def State.item (code : Nat) (s : State) : Option ItemRecord := findKey ItemRecord.code code s.itb.items

/-- A record put at its code. -/
def State.putItem (r : ItemRecord) (s : State) : State :=
  { s with itb := { s.itb with items := putKey ItemRecord.code r s.itb.items } }

/-- The record of a code taken away. -/
def State.dropItem (code : Nat) (s : State) : State :=
  { s with itb := { s.itb with items := dropKey ItemRecord.code code s.itb.items } }

/-- One checked read of a record: a check that fails while DAMAGED is clear sets it and logs fault 502 (R22). DESIGN CHOICE, log 24. -/
def checkItem (mem : MemFaults) (code : Nat) (s : State) : State :=
  match s.item code with
  | none => s
  | some r =>
    if mem.items.contains code && !r.damaged then
      (s.putItem { r with damaged := true }).logFault .memory 502 (.item code)
    else s

/-- A record created by ITEM-PUT or by a staging walk, without its current and pending (R1). -/
def ItemRecord.fresh (code : Nat) (desc : Text) (band : Nat) : ItemRecord :=
  ⟨code, desc, band, false, false, none, none, none, 0, [], 0, none, false⟩

/-- The keeping rule: previous after a change of current (R9). An outgoing record that cannot be read, or that there is none of, is absent. -/
def keepPrevious (count : Nat) (existing outgoing : Option Previous) (incoming : Previous) : Option Previous :=
  if count = 0 then none
  else match existing, outgoing with
    | none, some o => some o
    | none, none => some incoming
    | some e, some o => if referenceAmount o.record < referenceAmount e.record then some o else some e
    | some e, none => some e

/-- The outgoing record as the keeping rule takes it: absent for a DAMAGED item (R9, R22). -/
def ItemRecord.outgoing (damaged : Bool) (r : ItemRecord) : Option Previous :=
  if damaged then none else r.current.map fun c => ⟨c, r.version⟩

/-- The record with a new current, one more version, and the count for it (R3, R7). -/
def ItemRecord.withCurrent (now : Nat) (incoming : PriceRecord) (r : ItemRecord) : ItemRecord :=
  ItemRecord.recount now { r with version := wrap16 r.version, current := some incoming }

/-- Does the keeping rule read the outgoing record at this change: the new count is above 0 and there is one (R9; log 11)? -/
def ItemRecord.keepingReads (now : Nat) (incoming : PriceRecord) (r : ItemRecord) : Bool :=
  decide (0 < (r.withCurrent now incoming).count) && r.current.isSome

/-- Is the item DAMAGED by the time its current changes (R22)? -/
def ItemRecord.damagedAt (mem : MemFaults) (now : Nat) (incoming : PriceRecord) (r : ItemRecord) : Bool :=
  r.damaged || (r.keepingReads now incoming && mem.items.contains r.code)

/-- A record after a change of its current: version, count, lag fields and previous as one change (R3, R7, R9). -/
def ItemRecord.changed (mem : MemFaults) (now : Nat) (incoming : PriceRecord) (r : ItemRecord) : ItemRecord :=
  let m := r.withCurrent now incoming
  { m with
    damaged := r.damagedAt mem now incoming
    previous := keepPrevious m.count r.previous (r.outgoing (r.damagedAt mem now incoming)) ⟨incoming, m.version⟩ }

/-- The ITB tells the LRC an item's new version (R3, R86). -/
def tellVersion (r : ItemRecord) (s : State) : State :=
  s.onLrc fun l => l.versionNotice s.now r.code (r.labels.map (·.addr))

/-- A change of an item's current, with what else the change sets (`also`), then the version notice (R3). -/
def changeCurrent (mem : MemFaults) (incoming : PriceRecord) (also : ItemRecord → ItemRecord) (r : ItemRecord) (s : State) : State :=
  let s := if r.keepingReads s.now incoming then checkItem mem r.code s else s
  tellVersion r (s.putItem (also (r.changed mem s.now incoming)))

/-- An item record is removed and the LRC told; each bound label loses its binding (R6, R86). -/
def removeItem (r : ItemRecord) (s : State) : State :=
  (s.dropItem r.code).onLrc fun l => l.removalNotice s.now r.code (r.labels.map (·.addr))

/-- A pending record dropped; a record without a current goes with it (R5). -/
def dropPending (r : ItemRecord) (s : State) : State :=
  if r.current.isNone then s.dropItem r.code else s.putItem { r with pending := none }

/-! ### Notices from the Label Radio Controller -/

/-- Why a bind notice is refused, if it is (R6). -/
def bindRefusal (item : Option ItemRecord) : Option Reply :=
  match item with
  | none => some (.notFound .item)
  | some r => if 4 ≤ r.labels.length then some (.refuse .full) else if r.current.isNone then some (.refuse .state) else none

/-- An accepted bind notice: the address is appended, uncounted values clear, and the count recomputed (R6, R7). -/
def bindNotice (code : Nat) (a : LabelAddr) (s : State) : State :=
  match s.item code with
  | none => s
  | some r => s.putItem (r.relabel s.now (r.labels ++ [⟨a, none, false⟩]))

/-- An unbind notice: the address leaves the list and the count (R6, R7). -/
def unbindNotice (code : Nat) (a : LabelAddr) (s : State) : State :=
  match s.item code with
  | none => s
  | some r => s.putItem (r.relabel s.now (r.labels.filter fun l => l.addr != a))

/-- An acknowledgement notice: the copy takes the version, its mark cleared where the version is the item's (R7, R10). -/
def ackNotice (code : Nat) (a : LabelAddr) (version : Nat) (s : State) : State :=
  match s.item code with
  | none => s
  | some r =>
    if r.labels.any (fun l => l.addr == a) then
      s.putItem (r.relabel s.now (r.labels.map fun l =>
        if l.addr = a then ⟨a, some version, if version = r.version then false else l.excluded⟩ else l))
    else s

/-! ### Promotion (R21) -/

/-- Promote a record's pending record, whole. -/
def promote (mem : MemFaults) (r : ItemRecord) (p : Pending) (s : State) : State :=
  match p.kind with
  | .price record desc band =>
    changeCurrent mem record (fun x => { x with desc := desc, band := band, pending := none }) r s
  | .delete => removeItem r s

/-! ### Label lag (R11) -/

/-- The LABEL-LAG report of an item. -/
def ItemRecord.lagReport (r : ItemRecord) : ReportBody :=
  .labelLag r.code r.version r.count (r.lagStart.getD 0) ((r.labels.filter (·.counted r.version)).map (·.addr))

/-- One item's lag, judged: due, it is reported and marked (R11). -/
def judgeLag (code : Nat) (s : State) : State :=
  match s.item code with
  | none => s
  | some r =>
    if r.lagDue s.now s.itb.lagLimit then (s.putItem { r with lagReported := true }).report r.lagReport else s

/-- Every item's lag, judged (R11, R20, R23). Ascending code order is DESIGN CHOICE, logs 8, 9 and 63. -/
def judgeAllLags (s : State) : State := (s.itb.items.map (·.code)).foldl (fun s c => judgeLag c s) s

end Sys2Proof.Machine
end

