-- ==== Sys2Proof/Machine/TemplateOps.lean ====
section
/-! DEFINITION. The Template Store's own operations: call chains, definitions, publish and walks, deletion, overlays, and the
resolution of a label's face (06). -/

namespace Sys2Proof.Machine

/-- A template slot. -/
def TemplateStore.slot (n : Nat) (t : TemplateStore) : TemplateSlot := tget t.slots n TemplateSlot.cold

/-- A template slot replaced. -/
def TemplateStore.setSlot (n : Nat) (x : TemplateSlot) (t : TemplateStore) : TemplateStore := { t with slots := tset t.slots n x }

/-- The published content of a slot (R104). -/
def TemplateStore.published (t : TemplateStore) (n : Nat) : Option (List Element) := (t.slot n).content

/-- Does a slot hold published content (R104)? -/
def TemplateStore.holds (n : Nat) (t : TemplateStore) : Bool := (t.slot n).content.isSome

/-! ### Call chains (R110) -/

/-- What stands as the content of each slot. -/
abbrev Contents := Nat → Option (List Element)

/-- The slots that a slot's content calls, in element order. -/
def callsOf (c : Contents) (n : Nat) : List Nat :=
  ((c n).getD []).filterMap fun e => match e.kind with | .call k => some k | _ => none

/-- The next slots of a call chain: those called that hold content (R110). -/
def chainCalls (c : Contents) (n : Nat) : List Nat := (callsOf c n).filter fun k => (c k).isSome

/-- Does a chain from a slot return to a slot already in it? Chains of distinct slots are at most 64 long, which the fuel covers. -/
def chainLoops (c : Contents) : Nat → List Nat → Nat → Bool
  | 0, _, _ => true
  | fuel + 1, seen, n => (chainCalls c n).any fun k => seen.contains k || chainLoops c fuel (k :: seen) k

/-- Does any call chain of the store return to a slot already in it (R110, check 2)? -/
def hasLoop (c : Contents) : Bool := (List.range 64).any fun n => (c n).isSome && chainLoops c 64 [n] n

/-- Is there a chain of `k` calls from a slot? -/
def chainOf (c : Contents) : Nat → Nat → Bool
  | 0, _ => true
  | k + 1, n => (chainCalls c n).any (chainOf c k)

/-- Is any call chain of the store longer than 2 (R110, check 3)? -/
def hasDeepChain (c : Contents) : Bool := (List.range 64).any fun n => (c n).isSome && chainOf c 3 n

/-- The contents with an open definition's element list standing as its slot's (R110). -/
def TemplateStore.contentsWith (d : Definition) (t : TemplateStore) : Contents :=
  fun n => if n = d.slot then some d.elements else t.published n

/-- Does content on a chain from a slot hold a CALL naming `target` (R111)? -/
def reachesCall (c : Contents) (target : Nat) : Nat → Nat → Bool
  | 0, _ => false
  | fuel + 1, n => (callsOf c n).any fun k => k == target || ((c k).isSome && reachesCall c target fuel k)

/-! ### Overlays (R113) -/

/-- An overlay entry. -/
def TemplateStore.overlay (n : Nat) (t : TemplateStore) : Option Overlay := tget t.overlays n none

/-- The active overlays that cover a rail, in entry order. -/
def TemplateStore.covering (rail : Nat) (t : TemplateStore) : List Overlay :=
  t.overlays.toList.filterMap fun o => match o with
    | some o => if o.first ≤ rail ∧ rail ≤ o.last then some o else none
    | none => none

/-- An overlay put into a list in ascending order of enable stamp, behind those with its own stamp (R113). DESIGN CHOICE, log 60. -/
def placeOverlay (o : Overlay) : List Overlay → List Overlay
  | [] => [o]
  | x :: xs => if o.stamp < x.stamp then o :: x :: xs else x :: placeOverlay o xs

/-- The active overlays that cover a rail, in ascending order of enable stamp, each of them once (R113, R115). -/
def TemplateStore.coveringAsc (rail : Nat) (t : TemplateStore) : List Overlay :=
  (t.covering rail).foldl (fun l o => placeOverlay o l) []

/-- The overlay stamp of a rail: the enable stamps in ascending order (R113). -/
def TemplateStore.stamp (rail : Nat) (t : TemplateStore) : List Nat := (t.coveringAsc rail).map (·.stamp)

/-- An overlay is cleared, and the LRC takes an overlay notice for the range it covered (R114). -/
def clearOverlay (n : Nat) (s : State) : State :=
  match s.tps.overlay n with
  | none => s
  | some o =>
    State.onLrc (fun l => l.overlayNotice s.now o.first o.last) { s with tps := { s.tps with overlays := tset s.tps.overlays n none } }

/-! ### Definitions (R107 to R111) -/

/-- A slot that leaves DEFINING: DEFINED when it holds published content, EMPTY when it does not (R109). -/
def TemplateSlot.leaveDefining (x : TemplateSlot) : TemplateSlot :=
  { x with state := if x.content.isSome then .defined else .empty }

/-- The open definition cancelled (R109). -/
def TemplateStore.cancel (t : TemplateStore) : TemplateStore :=
  match t.definition with
  | none => t
  | some d => { t.setSlot d.slot (t.slot d.slot).leaveDefining with definition := none }

/-- A slot after a publish (R106, R111). -/
def TemplateSlot.publish (es : List Element) (x : TemplateSlot) : TemplateSlot :=
  ⟨.defined, some es, wrap16 x.revision, if x.content.isSome then x.permanence else some .temporary⟩

/-- The definition published, with its walk entry at the tail of the walk list (R111). -/
def TemplateStore.publish (d : Definition) (t : TemplateStore) : TemplateStore :=
  let x := (t.slot d.slot).publish d.elements
  { t.setSlot d.slot x with definition := none, walks := t.walks ++ [⟨.publish, d.slot, x.revision, none, 0⟩] }

/-- Has a slot an entry in the walk list (R107, R112)? -/
def TemplateStore.walking (n : Nat) (t : TemplateStore) : Bool := t.walks.any fun w => w.slot == n

/-! ### Walks (R111, R112) -/

/-- Does a label depend on a slot (R111)? -/
def TemplateStore.depends (n : Nat) (e : LabelEntry) (t : TemplateStore) : Bool :=
  e.template == n || reachesCall t.published n 64 e.template
    || (t.covering e.addr.rail).any fun o => o.slot == n || reachesCall t.published n 64 o.slot

/-- The head walk ends: its entry leaves the list and TEMPLATE-DONE is queued (R111). -/
def endWalk (s : State) : State :=
  match s.tps.walks with
  | [] => s
  | w :: ws => State.report (.templateDone w.kind w.slot w.revision w.noticed .complete) { s with tps := { s.tps with walks := ws } }

/-- The head walk visits one directory entry, and gives a dependent label its template notice (R87, R111). -/
def visitLabel (w : WalkEntry) (ws : List WalkEntry) (e : LabelEntry) (s : State) : State :=
  let hit := s.tps.depends w.slot e
  let s := { s with tps := { s.tps with walks := { w with pos := some e.key, noticed := if hit then w.noticed + 1 else w.noticed } :: ws } }
  if hit then s.onLrc fun l => l.cause s.now .template e.addr else s

/-- One step of the head walk; the walk ends with the last entry (R111). -/
def templateWalk (s : State) : State :=
  match s.tps.walks with
  | [] => s
  | w :: ws => match nextAfter LabelEntry.key w.pos s.lrc.directory with
    | none => endWalk s
    | some e =>
      let s := visitLabel w ws e s
      if (nextAfter LabelEntry.key (some e.key) s.lrc.directory).isNone then endWalk s else s

/-! ### Deletion (R112, R116) -/

/-- The overlays that name a slot are cleared (R112, step 4). Ascending overlay number is DESIGN CHOICE, log 67. -/
def clearOverlaysOf (n : Nat) (s : State) : State :=
  (List.range 4).foldl (fun s i => match s.tps.overlay i with
    | some o => if o.slot = n then clearOverlay i s else s
    | none => s) s

/-- The open definition cancelled where it is for this slot. -/
def cancelFor (n : Nat) (s : State) : State :=
  match s.tps.definition with
  | some d => if d.slot = n then { s with tps := s.tps.cancel } else s
  | none => s

/-- A slot is deleted: steps 1 to 5 of R112. -/
def deleteSlot (n : Nat) (s : State) : State :=
  let s := cancelFor n s
  let x := s.tps.slot n
  let s := { s with tps := s.tps.setSlot n ⟨.empty, none, x.revision, none⟩ }
  let s := s.onLrc fun l => (l.onTemplate n).foldl (fun l a => l.rebindNotice s.now a) l
  let s := clearOverlaysOf n s
  { s with tps := { s.tps with walks := s.tps.walks ++ [⟨.delete, n, x.revision, none, 0⟩] } }

/-- A slot's entries leave the walk list, each told by TEMPLATE-DONE with outcome DELETED (R116, step 2). -/
def stopWalks (n : Nat) (s : State) : State :=
  (s.tps.walks.filter fun w => w.slot == n).foldl
    (fun s w => s.report (.templateDone w.kind w.slot w.revision w.noticed .deleted))
    { s with tps := { s.tps with walks := s.tps.walks.filter fun w => w.slot != n } }

/-- A cutover cancels the open definition of a slot it deletes, and reports it (R116, step 3). -/
def cancelAtCutover (n : Nat) (s : State) : State :=
  match s.tps.definition with
  | some d =>
    if d.slot = n then State.report (.templateCancelled n d.elements.length .cutover) { s with tps := s.tps.cancel } else s
  | none => s

/-- Is a slot temporary: it holds published content, is TEMPORARY, and is not slot 0 (R116)? -/
def TemplateStore.temporary (n : Nat) (t : TemplateStore) : Bool :=
  n != 0 && t.holds n && (t.slot n).permanence == some .temporary

/-- The temporary templates deleted, in ascending slot order; the slots deleted and the labels rebound (R116). -/
def deleteTemporary (s : State) : State × Nat × Nat :=
  (List.range 64).foldl (fun (acc : State × Nat × Nat) n =>
    if acc.1.tps.temporary n then
      let s := cancelAtCutover n (stopWalks n acc.1)
      (deleteSlot n s, acc.2.1 + 1, acc.2.2 + (s.lrc.onTemplate n).length)
    else acc) (s, 0, 0)

/-! ### Resolving a face (R115) -/

/-- The place of an anchor in ascending order of row and then column. -/
def FaceElement.key (e : FaceElement) : Nat := e.row * 32 + e.column

/-- What an element that is not a CALL shows from. -/
def ElementKind.face : ElementKind → FaceKind × Text
  | .priceMain => (.priceMain, [])
  | .priceFraction => (.priceFraction, [])
  | .comparison => (.comparison, [])
  | .description => (.description, [])
  | .text t => (.text, t)
  | .promoBadge => (.promoBadge, [])
  | .call _ => (.text, [])

/-- A template expanded in element order, its elements shifted; elements shifted off the grid are dropped (R115, step 1).
Chains are at most 2 long (R110), which the fuel covers. -/
def expand (c : Contents) : Nat → Nat → Nat → Nat → List FaceElement
  | 0, _, _, _ => []
  | fuel + 1, n, dr, dc => ((c n).getD []).flatMap fun e =>
      if 7 < e.row + dr ∨ 31 < e.column + dc then []
      else match e.kind with
        | .call k => expand c fuel k (e.row + dr) (e.column + dc)
        | k => [⟨e.row + dr, e.column + dc, k.face.1, e.size, k.face.2⟩]

/-- Elements take their anchors in list order, each replacing what stands there (R115, steps 2 and 3). -/
def takeAnchors (es base : List FaceElement) : List FaceElement := es.foldl (fun l e => putKey FaceElement.key e l) base

/-- The resolved face of a template on a rail (R115). -/
def TemplateStore.resolve (template rail : Nat) (t : TemplateStore) : List FaceElement :=
  (t.coveringAsc rail).foldl (fun l o => takeAnchors (expand t.published 64 o.slot 0 0) l)
    (takeAnchors (expand t.published 64 template 0 0) [])

end Sys2Proof.Machine
end

