-- ==== Sys2Proof/Machine/TillOps.lean ====
section
/-! DEFINITION. The Till Service Unit's own operations: sessions and their settling, the lane messages it sends, baskets, the records
it asks the journal for, and the cutover hold (03). -/

namespace Sys2Proof.Machine

/-- The lanes, in order. -/
def lanes : List Nat := (List.range 64).map (· + 1)

/-- A lane's roster entry. -/
def State.roster (lane : Nat) (s : State) : RosterEntry := tget s.tsu.roster (lane - 1) RosterEntry.cold

/-- A lane's session. -/
def State.session (lane : Nat) (s : State) : Session := tget s.tsu.sessions (lane - 1) Session.cold

/-- A lane's basket. -/
def State.basket (lane : Nat) (s : State) : Basket := tget s.tsu.baskets (lane - 1) Basket.cold

/-- A lane's session replaced. -/
def State.setSession (lane : Nat) (x : Session) (s : State) : State :=
  { s with tsu := { s.tsu with sessions := tset s.tsu.sessions (lane - 1) x } }

/-- A lane's basket replaced. -/
def State.setBasket (lane : Nat) (b : Basket) (s : State) : State :=
  { s with tsu := { s.tsu with baskets := tset s.tsu.baskets (lane - 1) b } }

/-- The present states (section 3.3). -/
def SessionState.isPresent : SessionState → Bool
  | .absent => false
  | .lost => false
  | _ => true

/-- The settled state (R44). -/
def settled (lockout hold basketOpen : Bool) : SessionState :=
  if lockout then .lockedOut else if hold then .held else if basketOpen then .inBasket else .ready

/-- A present session settles; one in ABSENT or LOST does not (R44). -/
def settle (lane : Nat) (s : State) : State :=
  let x := s.session lane
  if x.state.isPresent then s.setSession lane { x with state := settled x.lockout s.tsu.hold (s.basket lane).isOpen } else s

/-- Every present session settles. -/
def settleAll (s : State) : State := lanes.foldl (fun s l => settle l s) s

/-- Baskets OPEN across all lanes (R59, R61). -/
def TillService.openCount (t : TillService) : Nat := (t.baskets.toList.filter (·.isOpen)).length

/-- A frame waits for the till port (R126). -/
def sendLane (station : HwAddr) (ms : List LaneMessage) (s : State) : State :=
  { s with tsu := { s.tsu with outbox := s.tsu.outbox ++ [⟨station, ms⟩] } }

/-- The basket summary of a WELCOME (R45). -/
def Basket.summary (b : Basket) : Option BasketSummary :=
  if b.isOpen then some ⟨b.sequence, b.lines.length, runningTotal b.lines⟩ else none

/-- A basket closed: NONE, its lines and flags cleared, its sequence kept (R49). -/
def Basket.closed (b : Basket) : Basket :=
  { b with isOpen := false, lines := [], mixed := false, abandonDue := false, dueCause := none, retryAt := none }

/-- A basket given back to its till: a due abandon is no longer due (R45, R56). -/
def Basket.restored (b : Basket) : Basket := { b with abandonDue := false, dueCause := none, retryAt := none }

/-- A session enters LOST (R47). -/
def enterLost (lane : Nat) (reason : LostReason) (s : State) : State :=
  let x := s.session lane
  State.report (.tillLost lane x.tillId reason (s.basket lane).isOpen)
    (s.setSession lane { x with
      state := .lost, lostSince := some s.now, lostReason := some reason, lostAt := s.elapsed, nextPoll := none, polled := false, heard := false })

/-- A session enters ABSENT at the end of its reconnect window (R47). DESIGN CHOICE, log 50. -/
def Session.gone (x : Session) : Session :=
  { x with state := .absent, station := none, service := false, seenOwed := false, lostSince := none, lostReason := none }

/-! ### What the journal is asked for -/

/-- The header of a VOID or ABANDON record (R55, R56, R67). -/
def basketHeader (lane : Nat) (tillId : Option Text) (s : State) : BasketHeader :=
  let b := s.basket lane
  ⟨lane, tillId, b.sequence, b.epoch, b.openTime, s.now, b.mixed⟩

/-- The SALE record of a close (R54, R66). -/
def saleRecord (lane : Nat) (tender : Tender) (s : State) : JournalContent :=
  let b := s.basket lane
  let used := b.lines.filter fun l => !l.voided
  .sale ⟨lane, (s.session lane).tillId, b.sequence, b.epoch, b.openTime, s.now, tender, basketTotal b.lines,
      bandTaxes s.itb.rates b.lines, b.mixed, used.any (·.labelLag), used.any fun l => l.used == .openPrice⟩
    b.lines (groupDiscounts b.lines)

/-- The hold order's effect on the lanes (R61). -/
def holdLanes (s : State) : State := settleAll { s with tsu := { s.tsu with hold := true } }

/-- The release order (R62): open baskets marked MIXED_EPOCH; and where the hold is in force, it is cleared and present sessions settle. -/
def releaseLanes (s : State) : State :=
  let marked := s.tsu.baskets.map fun b => if b.isOpen then { b with mixed := true } else b
  let held := s.tsu.hold
  let s := { s with tsu := { s.tsu with baskets := marked, hold := false } }
  if held then settleAll s else s

end Sys2Proof.Machine
end

