-- ==== Sys2Proof/Machine/UplinkOps.lean ====
section
/-! DEFINITION. The Uplink Scheduler's own operations: class queues, PAY drops, profiles and the arbiter (09). -/

namespace Sys2Proof.Machine

/-- A class queue. -/
def Uplink.queue (u : Uplink) : UplinkClass → ClassQueue
  | .pay => u.pay
  | .ctrl => u.ctrl
  | .store => u.store
  | .exch => u.exch
  | .guest => u.guest

/-- A class queue replaced. -/
def Uplink.setQueue (u : Uplink) (c : UplinkClass) (q : ClassQueue) : Uplink :=
  match c with
  | .pay => { u with pay := q }
  | .ctrl => { u with ctrl := q }
  | .store => { u with store := q }
  | .exch => { u with exch := q }
  | .guest => { u with guest := q }

/-- The capacities in frames (R147). -/
def UplinkClass.capacity : UplinkClass → Nat
  | .pay => 64
  | .ctrl => 64
  | .store => 256
  | .exch => 128
  | .guest => 256

/-- A shared class among the classes. -/
def SharedClass.toClass : SharedClass → UplinkClass
  | .ctrl => .ctrl
  | .store => .store
  | .exch => .exch
  | .guest => .guest

/-- A queue that counts one more drop (R147). -/
def ClassQueue.drop (q : ClassQueue) : ClassQueue := { q with drops := bump max32 q.drops }

/-- A queue with a frame at its tail (R147). -/
def ClassQueue.push (f : UplinkFrame) (q : ClassQueue) : ClassQueue := { q with frames := q.frames ++ [f] }

/-- A PAY drop reported: PAY-DROP with the number it reports, fault 301, and a new interval of 60 s (R149). -/
def reportPayDrop (n : Nat) (s : State) : State :=
  let s := s.report (.payDrop n s.uls.pay.drops s.now)
  let s := s.logFault .route 301 (.payDropped s.uls.pay.drops)
  { s with uls := { s.uls with payDrop := some ⟨s.elapsed + 60, 0⟩ } }

/-- The further effects of a PAY drop, already counted (R149). Where the suppressed count stops is DESIGN CHOICE, log 80. -/
def payDropped (s : State) : State :=
  match s.uls.payDrop with
  | none => reportPayDrop 1 s
  | some i => { s with uls := { s.uls with payDrop := some { i with suppressed := bump max32 i.suppressed } } }

/-- Has a class queue room (R147)? -/
def Uplink.hasRoom (c : UplinkClass) (u : Uplink) : Bool := decide ((u.queue c).frames.length < c.capacity)

/-- A frame handed to the Uplink Scheduler joins its class queue, or is dropped at the tail (R147, R149). -/
def enqueueClass (c : UplinkClass) (f : UplinkFrame) (s : State) : State :=
  if s.uls.hasRoom c then { s with uls := s.uls.setQueue c ((s.uls.queue c).push f) }
  else
    let s := { s with uls := s.uls.setQueue c (s.uls.queue c).drop }
    if c = .pay then payDropped s else s

/-- A guest frame: with the THROTTLED mark it joins only below 64 frames, else the drop is counted twice (R148). -/
def enqueueGuest (throttled : Bool) (f : UplinkFrame) (s : State) : State :=
  if throttled && decide (64 ≤ s.uls.guest.frames.length) then
    { s with uls := { s.uls with guest := s.uls.guest.drop, throttledDrops := bump max32 s.uls.throttledDrops } }
  else enqueueClass .guest f s

/-- A profile notice names the profile in force (R151). -/
def profileNotice (p : ProfileName) (s : State) : State := { s with uls := { s.uls with inForce := p } }

/-- A profile by name. -/
def Uplink.profile (u : Uplink) : ProfileName → Profile
  | .day => u.day
  | .night => u.night

/-- The allowance a profile gives a class (R150). -/
def Profile.allowance (p : Profile) : SharedClass → Nat
  | .ctrl => p.ctrl
  | .store => p.store
  | .exch => p.exch
  | .guest => p.guest

/-- The other shared classes after one, in round order (R152). -/
def SharedClass.round : SharedClass → List SharedClass
  | .ctrl => [.store, .exch, .guest]
  | .store => [.exch, .guest, .ctrl]
  | .exch => [.guest, .ctrl, .store]
  | .guest => [.ctrl, .store, .exch]

/-- The next waiting class after the holder (R152). -/
def Uplink.nextWaiting (u : Uplink) : Option SharedClass := u.holder.round.find? fun c => !(u.queue c.toClass).frames.isEmpty

/-- A frame sent from the head of its queue, counted with its length (R154). -/
def ClassQueue.sent (f : UplinkFrame) (rest : List UplinkFrame) (q : ClassQueue) : ClassQueue :=
  { q with frames := rest, sentFrames := bump max32 q.sentFrames, sentBytes := addCap max32 q.sentBytes f.length }

/-- The head of a class queue is sent on the WAN port; the holder and allowance are as given (R153, R154). -/
def sendHead (c : UplinkClass) (holder : SharedClass) (budget : Nat → Nat) (s : State) : State :=
  match (s.uls.queue c).frames with
  | [] => s
  | f :: rest =>
    let u := s.uls.setQueue c ((s.uls.queue c).sent f rest)
    { s with uls := { u with holder := holder, allowance := budget f.length }, out := { s.out with wan := some f } }

/-- One ready event of the WAN port: the first step of R153 that applies. -/
def arbitrate (s : State) : State :=
  let u := s.uls
  if !u.pay.frames.isEmpty then sendHead .pay u.holder (fun _ => u.allowance) s
  else if 0 < u.allowance ∧ (u.queue u.holder.toClass).frames.isEmpty = false then
    sendHead u.holder.toClass u.holder (fun n => u.allowance - n) s
  else match u.nextWaiting with
    | some c => sendHead c.toClass c (fun n => (u.profile u.inForce).allowance c - n) s
    | none => sendHead u.holder.toClass u.holder (fun n => (u.profile u.inForce).allowance u.holder - n) s

/-- The PAY-DROP interval ends (R149). -/
def endPayDropInterval (i : PayDropInterval) (s : State) : State :=
  if 0 < i.suppressed then reportPayDrop i.suppressed s else { s with uls := { s.uls with payDrop := none } }

/-- The figures of a queue for UPLINK-STATUS (R156). -/
def ClassQueue.figures (q : ClassQueue) : QueueFigures :=
  ⟨q.frames.length, (q.frames.map (·.length)).sum, q.drops, q.sentFrames, q.sentBytes⟩

end Sys2Proof.Machine
end

