-- ==== Sys2Proof/Machine/ExchangeOps.lean ====
section
/-! DEFINITION. The Exchange Engine's own operations: its datagrams, the phases of a session, the staging and abort walks, failure, and
the cutover with its drain and finish (10); and the baskets' closing, which the drain waits for (R61). -/

namespace Sys2Proof.Machine

/-- A change of the exchange session record. -/
def State.onSession (f : ExchangeSession → ExchangeSession) (s : State) : State :=
  { s with xce := { s.xce with session := f s.xce.session } }

/-- A change of the cutover record. -/
def State.onCutover (f : Cutover → Cutover) (s : State) : State :=
  { s with xce := { s.xce with cutover := f s.xce.cutover } }

/-- The walk in flight replaced. -/
def State.setWalk (w : Option Walk) (s : State) : State := { s with xce := { s.xce with walk := w } }

/-- Has a timer's time come? DESIGN CHOICE, log 2. -/
def State.due (t : Option Nat) (s : State) : Bool := match t with | some d => decide (d ≤ s.elapsed) | none => false

/-- The exchange peer: the base of the enabled entry that holds the exchange-peer flag (R128). -/
def Forwarder.exchangePeer (z : Forwarder) : Option Ipv4 :=
  (z.ranges.toList.find? fun r => r.peer && r.enable).map (·.base)

/-! ### Datagrams to head office (R159) -/

/-- A datagram from the part's own WAN address to the session's peer, entered in class EXCH; one that is DROPPED is lost in transit
(R147, R159). -/
def sendDatagram (d : Datagram) (s : State) : State :=
  match s.xce.session.peer with
  | none => s
  | some p => enqueueClass .exch ⟨.datagram Config.ownWanAddress p d, (encDatagram d).length + Config.wanHeaderOctets⟩ s

/-- A fresh HELLO, one more attempt, and 30 s for it (R161). -/
def sendHello (s : State) : State :=
  let x := s.xce.session
  let s := sendDatagram (.hello x.number x.branch identity s.itb.epoch s.jnl.mark.seq s.jnl.append.seq) s
  s.onSession fun x => { x with attempts := x.attempts + 1, helloDue := some (s.elapsed + 30) }

/-- BACK with the highest part taken in order (R165). -/
def sendBack (s : State) : State := sendDatagram (.back s.xce.session.number s.xce.session.highestPart) s

/-- A datagram that is stray: counted, and nothing else (R159). -/
def strayed (s : State) : State := s.onSession fun x => { x with stray := bump max32 x.stray }

/-! ### Upload (R162 to R164) -/

/-- The ring position at which block `k` begins (R162). -/
def ExchangeSession.blockStart (x : ExchangeSession) (k : Nat) : Nat := forward x.origin ((k - 1) * x.blockSize)

/-- The ring position just past the last page of block `k` (R163). -/
def ExchangeSession.blockEnd (x : ExchangeSession) (k : Nat) : Nat :=
  if k = x.laid then x.limit else forward x.origin (k * x.blockSize)

/-- Block `k` read from the journal and sent as one JBLOCK (R162). -/
def sendBlock (mem : MemFaults) (k : Nat) (s : State) : State :=
  match blockRead mem (s.xce.session.blockStart k) s.xce.session.blockSize s with
  | (s, some ps) =>
    sendDatagram (.jblock s.xce.session.number k ((ps.head?.map (·.seq)).getD 0) ps.length ps) s
  | (s, none) => s

/-- May a further block be sent: fewer than 4 sent blocks unacknowledged, and blocks remain (R162)? -/
def ExchangeSession.maySend (x : ExchangeSession) : Bool :=
  decide (x.highestSent < x.laid) && decide (x.highestSent - x.highestAcked < 4)

/-- The next block sent; the 10 s interval starts with the first (R162, R164). -/
def sendNextBlock (mem : MemFaults) (s : State) : State :=
  let k := s.xce.session.highestSent + 1
  let s := sendBlock mem k s
  s.onSession fun x => { x with
    highestSent := k, blocksSent := x.blocksSent + 1
    uploadDue := if k = 1 then some (s.elapsed + 10) else x.uploadDue }

/-- Blocks sent while the window allows; the window is 4, which the fuel bounds (R162). -/
def sendBlocks (mem : MemFaults) : Nat → State → State
  | 0, s => s
  | fuel + 1, s => if s.xce.session.maySend then sendBlocks mem fuel (sendNextBlock mem s) else s

/-- Every sent and unacknowledged block sent again, in block order (R164). -/
def resendBlocks (mem : MemFaults) (s : State) : State :=
  let x := s.xce.session
  ((List.range (x.highestSent - x.highestAcked)).map fun i => x.highestAcked + 1 + i).foldl (fun s k => sendBlock mem k s) s

/-- The session has left UPLOAD for DOWNLOAD: limit cleared, BACK 0, the part timer and the 10 s of BACK started (R158, R165). -/
def enterDownload (s : State) : State :=
  let s := clearLimit s
  let s := s.onSession fun x => { x with
    state := .download, uploadDue := none, partDue := some (s.elapsed + 30), backDue := some (s.elapsed + 10) }
  sendBack s

/-- The block size a session copies: the one in force, also where a BLOCK-SIZE in OPENING gave it (DESIGN CHOICE, log 93), or where it is
DISABLED a free choice of the four (R162; log 14). -/
def copyBlockSize (s : State) : Nat × State :=
  match s.xce.blockSize with
  | some b => (b, s)
  | none => (2 ^ ((Config.freeBlockSize s.free).val + 1), { s with free := s.free + 1 })

/-- Entry to UPLOAD (R162). -/
def enterUpload (mem : MemFaults) (s : State) : State :=
  let (b, s) := copyBlockSize (profileNotice .night s)
  let s := openLimit s
  let span := s.jnl.unuploaded
  let s := s.onSession fun x => { x with
    state := .upload, helloDue := none, blockSize := b, origin := s.jnl.mark.pos, limit := s.jnl.append.pos, laid := ceilDiv span b }
  if span = 0 then enterDownload s else sendBlocks mem 4 s

/-! ### The cutover's finish and drain (R173, R175) -/

/-- Is the cutover under way, so that a checked batch waits and requests are BUSY (R161, R168, R172)? -/
def CutoverState.underWay : CutoverState → Bool
  | .drain => true
  | .apply => true
  | .finish => true
  | _ => false

/-- Entry to STAGING (R168). -/
def enterStaging (s : State) : State :=
  let batch := s.xce.session.header.map (·.batch)
  let s := s.onSession fun x => { x with state := .staging }
  { s with
    itb := { s.itb with pendingBatch := none }
    xce := { s.xce with stagingBatch := batch, walk := some (.pass1 none) } }

/-- A session that waits in VERIFY enters STAGING once no cutover is under way and the walker is free (R167, R168). -/
def tryStaging (s : State) : State :=
  if s.xce.session.state = .verify ∧ s.xce.cutover.state.underWay = false ∧ s.xce.walk = none then enterStaging s else s

/-- FINISH's first step: the epoch advanced and the pending batch identity cleared, unless that is done (R4, R175). -/
def advanceEpoch (s : State) : State :=
  if s.xce.cutover.epochAdvanced then s
  else
    let s := s.onCutover fun c => { c with epochAdvanced := true }
    { s with itb := { s.itb with epoch := s.itb.epoch + 1, pendingBatch := none } }

/-- The CUTOVER-DONE report (R175). -/
def cutoverReport (slots rebound : Nat) (s : State) : ReportBody :=
  let c := s.xce.cutover
  .cutoverDone c.startTag s.itb.epoch c.promoted c.deleted slots rebound c.drainEnd c.basketsOpen

/-- FINISH, in its order; a session waiting in VERIFY then enters STAGING (R175). -/
def finishCutover (s : State) : State :=
  let (s, slots, rebound) := deleteTemporary (advanceEpoch s)
  let s := releaseLanes s
  let s := s.report (cutoverReport slots rebound s)
  tryStaging (s.onCutover fun _ => .idle)

/-- A drain that has ended goes on once no staging or abort walk is in flight: to APPLY with a pending batch, else FINISH (R173). -/
def proceedDrain (s : State) : State :=
  if s.xce.cutover.state = .drain ∧ s.xce.cutover.drainEnd ≠ none ∧ s.xce.walk = none then
    if s.itb.pendingBatch.isSome then s.onCutover fun c => { c with state := .apply, walkPos := none } else finishCutover s
  else s

/-- The drain ends, in the first way to be taken (R173). -/
def endDrain (how : DrainEnd) (s : State) : State :=
  if s.xce.cutover.state = .drain ∧ s.xce.cutover.drainEnd = none then
    proceedDrain (s.onCutover fun c => { c with drainEnd := some how, basketsOpen := s.tsu.openCount, drainDue := none })
  else s

/-- A drain-empty notice, where the hold is in force and no basket is OPEN (R61). -/
def drainEmpty (s : State) : State := if s.tsu.hold ∧ s.tsu.openCount = 0 then endDrain .empty s else s

/-- Entry to DRAIN: the limit recorded, the hold order sent, and its answer judged (R173). -/
def startCutover (tag limit : Nat) (s : State) : State :=
  let s := s.onCutover fun _ => ⟨.drain, none, limit, tag, none, false, 0, 0, none, 0, some (s.elapsed + limit)⟩
  drainEmpty (holdLanes s)

/-- A SCHEDULED cutover whose time the clock has reached starts (R172). -/
def scheduleDue (s : State) : State :=
  let c := s.xce.cutover
  match c.state, c.time with
  | .scheduled, some t => if t ≤ s.now then startCutover c.startTag c.drainLimit s else s
  | _, _ => s

/-! ### Baskets closed (R49, R56, R61) -/

/-- A basket closes and its lane settles (R49). -/
def closeQuietly (lane : Nat) (s : State) : State := settle lane (s.setBasket lane (s.basket lane).closed)

/-- A basket closes, and under the hold the drain is told where it was the last (R61). -/
def closeBasket (lane : Nat) (s : State) : State := drainEmpty (closeQuietly lane s)

/-- The joined till id of a lane's session, or a free value where it holds none (R63, R67; log 5). -/
def basketTillId (lane : Nat) (s : State) : Text × State :=
  match (s.session lane).tillId with
  | some t => (t, s)
  | none => s.drawTillId

/-- The journal is asked for an ABANDON record; whether it accepted (R56). -/
def appendAbandon (mem : MemFaults) (cause : AbandonCause) (lane : Nat) (s : State) : State × Bool :=
  let (t, s) := basketTillId lane s
  match journalAppend mem (.abandon (basketHeader lane (some t) s) cause (s.basket lane).lines) s with
  | (s, some _) => (s, true)
  | (s, none) => (s, false)

/-- A refused abandon is marked due, with a retry one poll period later (R56). DEDUCED, log 38. -/
def markAbandonDue (cause : AbandonCause) (lane : Nat) (s : State) : State :=
  s.setBasket lane { s.basket lane with
    abandonDue := true, dueCause := some cause, retryAt := some (s.elapsed + s.tsu.pollPeriod) }

/-- One basket found OPEN at a start: abandoned with cause RESTART, or marked abandon due (R56, R63). -/
def restartAbandon (mem : MemFaults) (lane : Nat) (s : State) : State :=
  if (s.basket lane).isOpen then
    match appendAbandon mem .restart lane s with
    | (s, true) => closeQuietly lane s
    | (s, false) => markAbandonDue .restart lane s
  else s

/-- The Till Service Unit begins to serve: its RESTART abandons, then the tills (R42, R63). The order among lanes is DESIGN CHOICE, log 48. -/
def serveTills (mem : MemFaults) (s : State) : State :=
  let s := lanes.foldl (fun s l => restartAbandon mem l s) s
  drainEmpty { s with tsu := { s.tsu with serving := true } }

/-- Is an abort walk in flight? -/
def Walk.isAbort : Walk → Bool
  | .abort _ => true
  | _ => false

/-- After a start, the tills are served once no abort walk and no APPLY walk is left (R42, R63, R176). -/
def serveIfFree (mem : MemFaults) (s : State) : State :=
  if s.tsu.serving = false ∧ s.xce.cutover.state ≠ .apply ∧ s.xce.walk.any Walk.isAbort = false then serveTills mem s else s

/-! ### Failure (R170) -/

/-- The fault a reason logs (R170). -/
def FailReason.faultCode : FailReason → Option Nat
  | .noAnswer => some 401
  | .uploadTimeout => some 401
  | .partTimeout => some 401
  | .batchCheck => some 402
  | _ => none

/-- The fault of a failing session, where its reason logs one. -/
def logFailure (r : FailReason) (s : State) : State :=
  match r.faultCode with
  | some code => s.logFault .exchange code (.session s.xce.session.number r)
  | none => s

/-- Entry to IDLE: the record cleared and the Staging Area emptied (R158; that the record's figures are cleared is log 16). -/
def enterIdle (s : State) : State := { s with xce := { s.xce with session := .idle, staging := [] } }

/-- Entry to IDLE by failure, with EXCHANGE-FAILED (R170). -/
def idleFailed (r : FailReason) (arose : ExchangeState) (s : State) : State :=
  let x := s.xce.session
  State.report (.exchangeFailed x.number x.startTag r arose s.jnl.unuploaded s.jnl.mark) (enterIdle s)

/-- A failure in STAGING: the walk stops, and the abort walk begins (R170). -/
def beginAbort (r : FailReason) (s : State) : State :=
  (s.onSession fun x => { x with state := .aborting, failure := some r, failedIn := some .staging }).setWalk (some (.abort none))

/-- What leaving a state by failure tells the other blocks (R151, R158). -/
def leaveByFailure (st : ExchangeState) (s : State) : State :=
  match st with
  | .upload => profileNotice .day (clearLimit s)
  | .download => profileNotice .day s
  | _ => s

/-- The session fails with a reason (R170). FAULT before EXCHANGE-FAILED is DESIGN CHOICE, log 90. -/
def failSession (r : FailReason) (s : State) : State :=
  match s.xce.session.state with
  | .idle => s
  | .aborting => s
  | .staging => beginAbort r (logFailure r s)
  | st => idleFailed r st (leaveByFailure st (logFailure r s))

/-! ### Verify, staging, closing (R166, R168, R169) -/

/-- The word sum of the Staging Area (R166). -/
def batchSum (l : List RawChange) : Nat := (l.map fun c => wordSum (encChange c)).sum % 65536

/-- Does the batch check pass (R166)? -/
def batchPasses (h : BatchHeader) (l : List RawChange) : Bool := (batchSum l + h.check) % 65536 == 0

/-- Entry to VERIFY: DAY notice and the batch check (R166). -/
def enterVerify (s : State) : State :=
  let s := profileNotice .day (s.onSession fun x => { x with state := .verify, partDue := none, backDue := none })
  match s.xce.session.header with
  | some h => if batchPasses h s.xce.staging then tryStaging s else failSession .batchCheck s
  | none => s

/-- CLOSING: DONE, EXCHANGE-DONE, IDLE; a drain that waited for the walk goes on (R169, R173). DONE's changes rejected as one total are
DESIGN CHOICE, log 91. -/
def closeSession (s : State) : State :=
  let x := s.xce.session
  let s := sendDatagram (.done x.number x.blocksSent x.installed (x.rejectedBad + x.rejectedFull + x.rejectedAbsent)) s
  let s := s.report (.exchangeDone x.number x.startTag x.blocksSent x.installed x.rejectedBad x.rejectedFull x.rejectedAbsent
    ((x.header.map (·.batch)).getD 0) s.jnl.mark)
  proceedDrain (enterIdle s)

/-- Pass 2 has ended: the pending batch identity given, the staging batch cleared, CLOSING (R168). -/
def endStaging (s : State) : State :=
  closeSession { s with
    itb := { s.itb with pendingBatch := s.xce.stagingBatch }
    xce := { s.xce with stagingBatch := none, walk := none } }

/-- Pass 1 has ended: pass 2 begins, and ends at once on an empty Staging Area (R168). -/
def beginPass2 (s : State) : State := if s.xce.staging.isEmpty then endStaging s else s.setWalk (some (.pass2 0))

/-- Does a record hold a pending record of another batch than this one (R5)? -/
def ItemRecord.otherBatch (batch : Option Nat) (r : ItemRecord) : Bool :=
  match r.pending with | some p => some p.batch != batch | none => false

/-- Does a record hold a pending record of this batch (R5)? -/
def ItemRecord.ofBatch (batch : Option Nat) (r : ItemRecord) : Bool :=
  match r.pending with | some p => some p.batch == batch | none => false

/-- A walk reads a record, checks it, and drops its pending record where `sel` holds (R5, R22). -/
def visitPending (mem : MemFaults) (sel : ItemRecord → Bool) (code : Nat) (s : State) : State :=
  let s := checkItem mem code s
  match s.item code with
  | some r => if sel r then dropPending r s else s
  | none => s

/-- One step of pass 1 (R168). -/
def pass1Step (mem : MemFaults) (pos : Option Nat) (s : State) : State :=
  match nextAfter ItemRecord.code pos s.itb.items with
  | none => beginPass2 s
  | some r =>
    let s := visitPending mem (·.otherBatch s.xce.stagingBatch) r.code s
    if (nextAfter ItemRecord.code (some r.code) s.itb.items).isNone then beginPass2 s else s.setWalk (some (.pass1 (some r.code)))

/-- Why an entry is rejected, or that it is installed (R168). -/
inductive Verdict
  | installed | bad | tableFull | absent
  deriving DecidableEq, Repr

/-- An entry counted by its outcome (R158, R168). DESIGN CHOICE, log 40. -/
def ExchangeSession.count (v : Verdict) (x : ExchangeSession) : ExchangeSession :=
  match v with
  | .installed => { x with installed := x.installed + 1 }
  | .bad => { x with rejectedBad := x.rejectedBad + 1 }
  | .tableFull => { x with rejectedFull := x.rejectedFull + 1 }
  | .absent => { x with rejectedAbsent := x.rejectedAbsent + 1 }

/-- The price record, description and band of an entry, where the Item Table accepts them (R2, R168). -/
def acceptedChange (c : RawChange) : Option (PriceRecord × RawDetail) :=
  match c.detail with
  | none => none
  | some d => match checkPrice d.price with
    | .ok p => if descBandOk d.desc d.band then some (p, d) else none
    | .error _ => none

/-- The pending record an entry of this session installs (R5, R168). -/
def stagedPending (k : PendingKind) (s : State) : Pending :=
  ⟨(s.xce.session.header.map (·.epoch)).getD 0, s.xce.stagingBatch.getD 0, k⟩

/-- A pending record set on a record that is present, which the walk reads (R5, R22). -/
def setPending (mem : MemFaults) (code : Nat) (k : PendingKind) (s : State) : State :=
  let s := checkItem mem code s
  match s.item code with
  | some r => s.putItem { r with pending := some (stagedPending k s) }
  | none => s

/-- One Staging Area entry installed, or rejected (R168). -/
def installChange (mem : MemFaults) (c : RawChange) (s : State) : State × Verdict :=
  if codeOk c.code = false then (s, .bad)
  else match c.kind, acceptedChange c, s.item c.code with
    | 0, none, _ => (s, .bad)
    | 1, none, _ => (s, .bad)
    | 0, some (p, d), none =>
      if s.itb.items.length < maxItems then
        (s.putItem { ItemRecord.fresh c.code d.desc d.band with pending := some (stagedPending (.price p d.desc d.band) s) }, .installed)
      else (s, .tableFull)
    | 1, some _, none => (s, .absent)
    | 0, some (p, d), some _ => (setPending mem c.code (.price p d.desc d.band) s, .installed)
    | 1, some (p, d), some _ => (setPending mem c.code (.price p d.desc d.band) s, .installed)
    | 2, _, none => (s, .absent)
    | 2, _, some _ => (setPending mem c.code .delete s, .installed)
    | _, _, _ => (s, .bad)

/-- One step of pass 2 (R168). -/
def pass2Step (mem : MemFaults) (i : Nat) (s : State) : State :=
  match s.xce.staging[i]? with
  | none => endStaging s
  | some c =>
    let s := ((installChange mem c s).1).onSession (·.count (installChange mem c s).2)
    if s.xce.staging.length ≤ i + 1 then endStaging s else s.setWalk (some (.pass2 (i + 1)))

/-! ### The abort walk (R170, R176) -/

/-- The abort walk has ended: the staging batch cleared, an ABORTING session to IDLE, and what waited for the walk goes on. -/
def endAbort (mem : MemFaults) (s : State) : State :=
  let s := { s with xce := { s.xce with stagingBatch := none, walk := none } }
  let x := s.xce.session
  let s := if x.state = .aborting then idleFailed (x.failure.getD .hostAbort) (x.failedIn.getD .staging) s else s
  tryStaging (proceedDrain (serveIfFree mem s))

/-- One step of the abort walk (R170). -/
def abortStep (mem : MemFaults) (pos : Option Nat) (s : State) : State :=
  match nextAfter ItemRecord.code pos s.itb.items with
  | none => endAbort mem s
  | some r =>
    let s := visitPending mem (·.ofBatch s.xce.stagingBatch) r.code s
    if (nextAfter ItemRecord.code (some r.code) s.itb.items).isNone then endAbort mem s else s.setWalk (some (.abort (some r.code)))

/-! ### The APPLY walk (R174) -/

/-- A promotion counted by its kind (R174). -/
def Cutover.count (k : PendingKind) (c : Cutover) : Cutover :=
  match k with
  | .price _ _ _ => { c with promoted := c.promoted + 1 }
  | .delete => { c with deleted := c.deleted + 1 }

/-- The APPLY walk passes one record: its due pending record is promoted, and the walk position becomes its code (R21, R174). -/
def applyRecord (mem : MemFaults) (code : Nat) (s : State) : State :=
  let s := checkItem mem code s
  let s := match s.item code with
    | some r => match r.pending with
      | some p => if p.epoch ≤ s.itb.epoch + 1 then (promote mem r p s).onCutover (·.count p.kind) else s
      | none => s
    | none => s
  s.onCutover fun c => { c with walkPos := some code }

/-- One step of the APPLY walk; FINISH follows the last record (R174, R175). -/
def applyStep (mem : MemFaults) (s : State) : State :=
  match nextAfter ItemRecord.code s.xce.cutover.walkPos s.itb.items with
  | none => serveIfFree mem (finishCutover s)
  | some r =>
    let s := applyRecord mem r.code s
    if (nextAfter ItemRecord.code (some r.code) s.itb.items).isNone then serveIfFree mem (finishCutover s) else s

end Sys2Proof.Machine
end

