-- ==== Sys2Proof/Machine/Exchanges.lean ====
section
/-! DEFINITION. The exchange and cutover requests, R160, R161, R170 to R172; head office's datagrams, R161 to R165; the session's timers
and the walks' steps. -/

namespace Sys2Proof.Machine

/-! ### Requests -/

/-- The block size a number of pages gives; absent is DISABLED (R160). -/
def blockSizeOf (n : Nat) : Option Nat := if n = 2 ∨ n = 4 ∨ n = 8 ∨ n = 16 then some n else none

/-- The XCE takes a BLOCK-SIZE (R160). -/
def blockSize (n : Nat) (s : State) : State × Reply :=
  ({ s with xce := { s.xce with blockSize := blockSizeOf n } }, .ok .empty (if (blockSizeOf n).isSome then [] else [.disabled]))

/-- BLOCK-SIZE (R160). -/
def execBlockSize (tag : Nat) (pages : Option Nat) (s : State) : Out := .next (hostRequest tag (withBody pages blockSize) s)

/-- The record of a session that opens (R158, R161). What it holds in the fields that R161 does not set is DESIGN CHOICE, log 92. -/
def ExchangeSession.opened (number : Nat) (branch : Text) (tag : Nat) (peer : Option Ipv4) : ExchangeSession :=
  { ExchangeSession.idle with state := .opening, number := number, branch := branch, startTag := tag, peer := peer }

/-- A session opens (R161). That a NO_PEER failure arises in OPENING is DESIGN CHOICE, log 81. -/
def openSession (tag : Nat) (branch : Text) (s : State) : State :=
  let n := next16 s.xce.counter
  let peer := s.zfw.exchangePeer
  let s := { s with xce := { s.xce with counter := n, session := .opened n branch tag peer } }
  if peer.isNone then failSession .noPeer s else sendHello s

/-- The XCE takes an EXCHANGE-START, its refusals in order (R161). -/
def exchangeStart (tag : Nat) (branch : Text) (s : State) : State × Reply :=
  if branch.length = 0 ∨ 16 < branch.length then (s, .refuse .badField)
  else if s.xce.session.state ≠ .idle then (s, .refuse .state)
  else if s.xce.cutover.state.underWay then (s, .refuse .busy)
  else if s.xce.blockSize.isNone then (s, .refuse .noBlockSize)
  else (openSession tag branch s, .accepted (next16 s.xce.counter))

/-- EXCHANGE-START (R161). -/
def execExchangeStart (tag : Nat) (branch : Option Text) (s : State) : Out :=
  .next (hostRequest tag (withBody branch (exchangeStart tag)) s)

/-- The XCE takes an EXCHANGE-ABORT (R170). -/
def exchangeAbort (s : State) : State × Reply :=
  if s.xce.session.state = .idle then (s, .refuse .state) else (failSession .hostAbort s, .okay)

/-- EXCHANGE-ABORT (R170). -/
def execExchangeAbort (tag : Nat) (empty : Bool) (s : State) : Out := .next (hostRequest tag (withoutBody empty exchangeAbort) s)

/-- What EXCHANGE-STATUS answers (R171). -/
def exchangeView (s : State) : ExchangeView :=
  ⟨s.xce.session, s.xce.staging.length, s.xce.blockSize, s.xce.counter, s.xce.stagingBatch, s.itb.pendingBatch, s.itb.epoch,
   s.xce.cutover, s.xce.cutover.drainDue.map (· - s.elapsed)⟩

/-- The XCE takes an EXCHANGE-STATUS (R171). -/
def exchangeStatus (s : State) : State × Reply := (s, .ok (.exchange (exchangeView s)) [])

/-- EXCHANGE-STATUS (R171). -/
def execExchangeStatus (tag : Nat) (empty : Bool) (s : State) : Out := .next (hostRequest tag (withoutBody empty exchangeStatus) s)

/-- A drain limit as a cutover request gives it, and whether it was clamped (R172). -/
def drainOf (d : Option Nat) : Nat := clamp 30 1800 (d.getD 300)

/-- The note of a clamped drain limit. -/
def drainNote (d : Option Nat) : List Note := if d.any (fun n => decide (clamp 30 1800 n ≠ n)) then [.clamped] else []

/-- A cutover request, with the refusals both kinds share (R4, R172). BUSY before EPOCH_LIMIT is DESIGN CHOICE, log 86. -/
def cutoverRequest (f : State → State × Reply) (s : State) : State × Reply :=
  if s.xce.cutover.state.underWay then (s, .refuse .busy)
  else if max32 ≤ s.itb.epoch then (s, .refuse .epochLimit)
  else f s

/-- A cutover that starts at once (R172). -/
def cutoverStarts (tag : Nat) (drain : Option Nat) (s : State) : State × Reply :=
  (startCutover tag (drainOf drain) s, .ok .empty (drainNote drain ++ [.started]))

/-- The XCE takes a CUTOVER-AT (R172). -/
def cutoverAt (tag : Nat) (a : CutoverAtArgs) : State → State × Reply :=
  cutoverRequest fun s =>
    if s.now < a.time then
      (s.onCutover fun _ => ⟨.scheduled, some a.time, drainOf a.drain, tag, none, false, 0, 0, none, 0, none⟩,
       .ok (.number 4 a.time) (drainNote a.drain))
    else cutoverStarts tag a.drain s

/-- CUTOVER-AT (R172). -/
def execCutoverAt (tag : Nat) (args : Option CutoverAtArgs) (s : State) : Out := .next (hostRequest tag (withBody args (cutoverAt tag)) s)

/-- The XCE takes a CUTOVER-NOW (R172). -/
def cutoverNow (tag : Nat) (drain : Option Nat) : State → State × Reply := cutoverRequest (cutoverStarts tag drain)

/-- CUTOVER-NOW (R172). -/
def execCutoverNow (tag : Nat) (drain : Option (Option Nat)) (s : State) : Out :=
  .next (hostRequest tag (withBody drain (cutoverNow tag)) s)

/-! ### Datagrams from head office -/

/-- A datagram for this session in a state that takes its kind, or stray (R159). -/
def datagram (number : Nat) (takes : ExchangeState → Bool) (f : State → State) (s : State) : State :=
  if s.xce.session.state ≠ .idle ∧ s.xce.session.number = number ∧ takes s.xce.session.state then f s else strayed s

/-- The XCE takes an ACCEPT (R161). -/
def takeAccept (number : Nat) (mem : MemFaults) : State → State := datagram number (· == .opening) (enterUpload mem)

/-- ACCEPT (R161, R162). -/
def execAccept (session : Nat) (mem : MemFaults) (s : State) : Out := .next (whileRunning (takeAccept session mem) s)

/-- A JACK that advances the highest block acknowledged (R163). -/
def acknowledgeBlock (n : Nat) (mem : MemFaults) (s : State) : State :=
  let s := s.onSession fun x => { x with highestAcked := n, resends := 0, uploadDue := some (s.elapsed + 10) }
  let s := acknowledge (s.xce.session.blockEnd n) s
  if n = s.xce.session.laid then enterDownload s else sendBlocks mem 4 s

/-- A JACK in UPLOAD (R163). -/
def judgeJack (n : Nat) (mem : MemFaults) (s : State) : State :=
  if s.xce.session.highestSent < n then strayed s
  else if n ≤ s.xce.session.highestAcked then s
  else acknowledgeBlock n mem s

/-- The XCE takes a JACK (R163). -/
def takeJack (number n : Nat) (mem : MemFaults) : State → State := datagram number (· == .upload) (judgeJack n mem)

/-- JACK (R163). -/
def execJack (session block : Nat) (mem : MemFaults) (s : State) : Out := .next (whileRunning (takeJack session block mem) s)

/-- A first BHEAD (R165). -/
def firstHeader (h : BatchHeader) (s : State) : State :=
  if h.epoch ≠ s.itb.epoch + 1 then failSession .epochMismatch s
  else if 32768 < h.count then failSession .stagingFull s
  else
    let s := sendBack (s.onSession fun x => { x with header := some h })
    if h.count = 0 then enterVerify s else s

/-- A BHEAD in DOWNLOAD (R165). -/
def judgeHeader (h : BatchHeader) (s : State) : State :=
  match s.xce.session.header with
  | none => firstHeader h s
  | some k => if k = h then sendBack s else strayed s

/-- The XCE takes a BHEAD (R165). -/
def takeBhead (number : Nat) (h : BatchHeader) : State → State := datagram number (· == .download) (judgeHeader h)

/-- BHEAD (R165). -/
def execBhead (session batch epoch count check : Nat) (s : State) : Out :=
  .next (whileRunning (takeBhead session ⟨batch, epoch, count, check⟩) s)

/-- A part taken in order joins the Staging Area, its BACK is sent and the timers start again (R165). DEDUCED, log 33. -/
def joinPart (part : Nat) (es : List RawChange) (s : State) : State :=
  let s := { s with xce := { s.xce with staging := s.xce.staging ++ es } }
  sendBack (s.onSession fun x => { x with
    highestPart := part, partDue := some (s.elapsed + 30), backDue := some (s.elapsed + 10) })

/-- What follows a part taken in order (R165). -/
def judgeCount (count : Nat) (last : Bool) (s : State) : State :=
  if count < s.xce.staging.length then failSession .countMismatch s
  else if last then (if s.xce.staging.length = count then enterVerify s else failSession .countMismatch s)
  else s

/-- A BPART in DOWNLOAD (R165). -/
def judgePart (part : Nat) (es : List RawChange) (last : Bool) (s : State) : State :=
  match s.xce.session.header with
  | none => sendBack (strayed s)
  | some h =>
    if part = s.xce.session.highestPart + 1 ∧ 1 ≤ es.length ∧ es.length ≤ 16 then judgeCount h.count last (joinPart part es s)
    else sendBack s

/-- The XCE takes a BPART (R165). -/
def takeBpart (number part : Nat) (es : List RawChange) (last : Bool) : State → State :=
  datagram number (· == .download) (judgePart part es last)

/-- BPART (R165). -/
def execBpart (session part : Nat) (entries : List RawChange) (last : Bool) (s : State) : Out :=
  .next (whileRunning (takeBpart session part entries last) s)

/-- The XCE takes an ABORT from head office, whose reason it does not use (R159, R170). -/
def takeAbort (number : Nat) : State → State := datagram number (fun _ => true) (failSession .peerAbort)

/-- ABORT (R170). -/
def execPeerAbort (session _reason : Nat) (s : State) : Out := .next (whileRunning (takeAbort session) s)

/-- STRAY_DATAGRAM: one that cannot be decoded (R159). -/
def execStrayDatagram (s : State) : Out := .next (whileRunning strayed s)

/-! ### Timers -/

/-- The 30 s of a HELLO have run (R161). -/
def helloExpires (s : State) : State :=
  if s.xce.session.state = .opening ∧ s.due s.xce.session.helloDue then
    (if s.xce.session.attempts < 3 then sendHello s else failSession .noAnswer s)
  else s

/-- HELLO_TIMEOUT (R161). -/
def execHelloTimeout (s : State) : Out := .next (whileRunning helloExpires s)

/-- The unacknowledged blocks sent again, one more resend counted, the interval started again (R164). -/
def resendUpload (mem : MemFaults) (s : State) : State :=
  resendBlocks mem (s.onSession fun x => { x with resends := x.resends + 1, uploadDue := some (s.elapsed + 10) })

/-- The 10 s interval of the upload has run (R164). -/
def uploadExpires (mem : MemFaults) (s : State) : State :=
  if s.xce.session.state = .upload ∧ s.due s.xce.session.uploadDue then
    (if s.xce.session.resends < 5 then resendUpload mem s else failSession .uploadTimeout s)
  else s

/-- UPLOAD_INTERVAL_EXPIRY (R164). -/
def execUploadIntervalExpiry (mem : MemFaults) (s : State) : Out := .next (whileRunning (uploadExpires mem) s)

/-- 10 s have passed without a part in order: BACK again (R165). -/
def backAgain (s : State) : State :=
  if s.xce.session.state = .download ∧ s.due s.xce.session.backDue then
    sendBack (s.onSession fun x => { x with backDue := some (s.elapsed + 10) })
  else s

/-- BACK_RESEND (R165). -/
def execBackResend (s : State) : Out := .next (whileRunning backAgain s)

/-- The part timer has run (R165). -/
def partExpires (s : State) : State :=
  if s.xce.session.state = .download ∧ s.due s.xce.session.partDue then failSession .partTimeout s else s

/-- PART_TIMEOUT (R165). -/
def execPartTimeout (s : State) : Out := .next (whileRunning partExpires s)

/-! ### Walks -/

/-- A step of pass 1 where it is in flight (R168). -/
def stagingPass1 (mem : MemFaults) (s : State) : State := match s.xce.walk with | some (.pass1 pos) => pass1Step mem pos s | _ => s

/-- STAGING_PASS_1_STEP (R168). -/
def execStagingPass1Step (mem : MemFaults) (s : State) : Out := .next (whileRunning (stagingPass1 mem) s)

/-- A step of pass 2 where it is in flight (R168). -/
def stagingPass2 (mem : MemFaults) (s : State) : State := match s.xce.walk with | some (.pass2 i) => pass2Step mem i s | _ => s

/-- STAGING_PASS_2_STEP (R168). -/
def execStagingPass2Step (mem : MemFaults) (s : State) : Out := .next (whileRunning (stagingPass2 mem) s)

/-- A step of the abort walk where it is in flight (R170). -/
def abortWalk (mem : MemFaults) (s : State) : State := match s.xce.walk with | some (.abort pos) => abortStep mem pos s | _ => s

/-- ABORT_WALK_STEP (R170). -/
def execAbortWalkStep (mem : MemFaults) (s : State) : Out := .next (whileRunning (abortWalk mem) s)

/-- CUTOVER_SCHEDULE_DUE (R172). -/
def execCutoverScheduleDue (s : State) : Out := .next (whileRunning scheduleDue s)

/-- The drain limit expires (R173). -/
def drainExpires (s : State) : State := if s.due s.xce.cutover.drainDue then endDrain .limit s else s

/-- DRAIN_LIMIT_EXPIRY (R173). -/
def execDrainLimitExpiry (s : State) : Out := .next (whileRunning drainExpires s)

/-- A step of the APPLY walk where it is in flight and the walker is free (R167, R174). -/
def applyWalk (mem : MemFaults) (s : State) : State :=
  if s.xce.cutover.state = .apply ∧ s.xce.walk = none then applyStep mem s else s

/-- APPLY_WALK_STEP (R174). -/
def execApplyWalkStep (mem : MemFaults) (s : State) : Out := .next (whileRunning (applyWalk mem) s)

end Sys2Proof.Machine
end

