-- ==== Sys2Proof/Machine/GuestOps.lean ====
section
/-! DEFINITION. The Guest Access Table's own operations: sessions, admission, eviction, the judgement of frames, and its timed events (08). -/

namespace Sys2Proof.Machine

/-- The key of a session. -/
def GuestSession.key (g : GuestSession) : Nat := g.hw.toNat

/-- The session of a hardware address (R135). -/
def State.guest (hw : HwAddr) (s : State) : Option GuestSession := findKey GuestSession.key hw.toNat s.gat.sessions

/-- A session put at its address. -/
def State.putGuest (g : GuestSession) (s : State) : State :=
  { s with gat := { s.gat with sessions := putKey GuestSession.key g s.gat.sessions } }

/-- A session taken away. -/
def State.dropGuest (hw : HwAddr) (s : State) : State :=
  { s with gat := { s.gat with sessions := dropKey GuestSession.key hw.toNat s.gat.sessions } }

/-- A new session (R135). -/
def GuestSession.fresh (hw : HwAddr) (now : Nat) : GuestSession := ⟨hw, .pending, none, now, none, none, 0, 0, now, false⟩

/-- How many sessions stand in a state. -/
def GuestTable.number (st : GuestState) (g : GuestTable) : Nat := (g.sessions.filter fun x => x.state == st).length

/-- How many sessions stand in each state (R140, R145). -/
def GuestTable.census (g : GuestTable) : GuestCensus :=
  ⟨g.number .pending, g.number .admitted, g.number .idle, g.number .throttled, g.number .expired, g.number .barred⟩

/-- A drop reason's place in the order of R145. -/
def GuestDrop.index : GuestDrop → Nat
  | .closed => 0
  | .badSource => 1
  | .full => 2
  | .portalOnly => 3
  | .expired => 4
  | .barred => 5
  | .noSession => 6

/-- A guest drop is counted (R145). -/
def GuestTable.countDrop (d : GuestDrop) (g : GuestTable) : GuestTable :=
  { g with drops := tset g.drops d.index (bump max32 (tget g.drops d.index 0)) }

/-- A guest drop on the whole part. -/
def State.guestDrop (d : GuestDrop) (s : State) : State := { s with gat := s.gat.countDrop d }

/-- Has the cooldown of an EXPIRED session ended (R139)? -/
def GuestSession.cooldownOver (now : Nat) (g : GuestSession) : Bool :=
  g.state == .expired && match g.expiresAt with | some e => decide (e + 300 ≤ now) | none => false

/-- Has an EXPIRED session's cooldown-end event been taken, which makes it a candidate (R140, R142)? -/
def GuestSession.cooledDown (g : GuestSession) : Bool := g.state == .expired && g.cooled

/-- The session that gives way: the first candidate of R140's order, the oldest by its time, a tie to the lower address. -/
def GuestTable.candidate (g : GuestTable) : Option GuestSession :=
  match bestBy (fun a b => decide (a.expiresAt.getD 0 < b.expiresAt.getD 0)) (g.sessions.filter (·.cooledDown)) with
  | some x => some x
  | none => match bestBy (fun a b => decide (a.lastFrame < b.lastFrame)) (g.sessions.filter fun x => x.state == .idle) with
    | some x => some x
    | none => bestBy (fun a b => decide (a.created < b.created)) (g.sessions.filter fun x => x.state == .pending)

/-- Room for one more session: a free place, or an eviction; none where there is no candidate (R140). -/
def makeRoom (s : State) : Option State :=
  if s.gat.sessions.length < 512 then some s
  else match s.gat.candidate with
    | none => none
    | some x =>
      let s := s.dropGuest x.hw
      some { s with gat := { s.gat with evictions := bump max32 s.gat.evictions } }

/-- A frame dropped with reason FULL: counted, and reported while armed (R140). -/
def guestFullDrop (hw : HwAddr) (s : State) : State :=
  let s := s.guestDrop .full
  if s.gat.fullArmed then State.report (.guestFull hw s.gat.census) { s with gat := { s.gat with fullArmed := false } } else s

/-- The GUEST-QUOTA report of a session (R137). -/
def GuestSession.quotaReport (g : GuestSession) : ReportBody := .guestQuota g.hw g.address g.used g.admittedAt g.expiresAt

/-- An internet frame debited to an ADMITTED session (R137). -/
def GuestSession.debit (len : Nat) (g : GuestSession) : GuestSession :=
  { g with
    quota := g.quota - len
    used := addCap max32 g.used len
    state := if g.quota - len = 0 then .throttled else .admitted }

/-- Why a state drops a frame, if it does (R136). -/
def GuestState.drops (portal : Bool) : GuestState → Option GuestDrop
  | .pending => if portal then none else some .portalOnly
  | .admitted => none
  | .idle => none
  | .throttled => none
  | .expired => some .expired
  | .barred => some .barred

/-- A session after a frame it forwards (R136, R137). -/
def GuestSession.forwarded (portal : Bool) (len now : Nat) (g : GuestSession) : GuestSession :=
  let g := { g with lastFrame := now }
  match g.state with
  | .admitted => if portal then g else g.debit len
  | .idle => if portal then { g with state := .admitted } else GuestSession.debit len { g with state := .admitted }
  | .throttled => if portal then g else { g with used := addCap max32 g.used len }
  | _ => g

/-- A frame judged by a session's state: dropped, or forwarded with the THROTTLED mark (R136, R137). DEDUCED, log 36. -/
def judgeGuest (portal : Bool) (len : Nat) (g : GuestSession) (s : State) : State × Option (GuestSession × Bool) :=
  match g.state.drops portal with
  | some d => (s.guestDrop d, none)
  | none =>
    let g' := g.forwarded portal len s.now
    let s := s.putGuest g'
    let s := if g'.state = .throttled ∧ g.state ≠ .throttled then s.report g'.quotaReport else s
    (s, some (g', g'.state == .throttled))

/-- A session takes a guest address, and any other session that holds it loses it (R135, R139). -/
def takeAddress (hw : HwAddr) (a : Ipv4) (s : State) : State :=
  { s with gat := { s.gat with sessions := s.gat.sessions.map fun g =>
      if g.hw = hw then { g with address := some a } else if g.address = some a then { g with address := none } else g } }

/-- Does the guest block hold an address (R121)? -/
def blockHolds (p : Portal) (a : Ipv4) : Bool := a &&& p.mask == p.base

/-- The EXPIRED session whose cooldown has ended, reset to PENDING by a frame from its device (R139). -/
def GuestSession.reset (now : Nat) (g : GuestSession) : GuestSession :=
  { g with state := .pending, created := now, lastFrame := now, admittedAt := none, expiresAt := none, quota := 0, used := 0, cooled := false }

/-- The session that a frame from the guest port is judged by, created or reset as R139's step 3 says; none where it is dropped FULL. -/
def guestFor (hw : HwAddr) (s : State) : State × Option GuestSession :=
  match s.guest hw with
  | some g =>
    if g.cooldownOver s.now then (s.putGuest (g.reset s.now), some (g.reset s.now)) else (s, some g)
  | none => match makeRoom s with
    | none => (guestFullDrop hw s, none)
    | some s => (s.putGuest (.fresh hw s.now), some (.fresh hw s.now))

/-- Is the source of a frame from the guest port bad (R139, step 2)? -/
def badGuestSource (hw : HwAddr) (src : Ipv4) (s : State) : Bool :=
  isGroup hw || match s.gat.portal with | none => true | some p => !blockHolds p src

/-- A frame from the guest port: dropped, or forwarded with its mark (R139). -/
def guestOutbound (hw : HwAddr) (src : Ipv4) (portal : Bool) (len : Nat) (s : State) : State × Option Bool :=
  if s.gat.isOpen = false then (s.guestDrop .closed, none)
  else if badGuestSource hw src s then (s.guestDrop .badSource, none)
  else match guestFor hw s with
    | (s, none) => (s, none)
    | (s, some g) => match judgeGuest portal len g s with
      | (s, none) => (s, none)
      | (s, some (_, mark)) => (takeAddress hw src s, some mark)

/-- A frame into the guest block: dropped, or forwarded to the device it names (R141). -/
def guestInbound (dst : Ipv4) (portal : Bool) (len : Nat) (s : State) : State × Option HwAddr :=
  if s.gat.isOpen = false then (s.guestDrop .closed, none)
  else match s.gat.sessions.find? (fun g => g.address == some dst) with
    | none => (s.guestDrop .noSession, none)
    | some g => match judgeGuest portal len g s with
      | (s, none) => (s, none)
      | (s, some (g, _)) => (s, some g.hw)

/-! ### Timed events (R142) -/

/-- Does a session's idle event come due: ADMITTED, and silent for the idle limit? -/
def GuestSession.idleDue (now limit : Nat) (g : GuestSession) : Bool := g.state == .admitted && decide (g.lastFrame + limit ≤ now)

/-- Does a session's expiry come due? -/
def GuestSession.expiryDue (now : Nat) (g : GuestSession) : Bool :=
  (g.state == .admitted || g.state == .idle || g.state == .throttled)
    && match g.expiresAt with | some e => decide (e ≤ now) | none => false

/-- Does a session's cooldown end come due, not taken yet? -/
def GuestSession.cooldownDue (now : Nat) (g : GuestSession) : Bool := g.cooldownOver now && !g.cooled

/-- The full-report flag is set (R140, R142). -/
def armGuestFull (s : State) : State := { s with gat := { s.gat with fullArmed := true } }

/-- The idle event of a session. -/
def takeIdle (hw : HwAddr) (s : State) : State :=
  match s.guest hw with
  | some g => if g.idleDue s.now s.gat.idleLimit then armGuestFull (s.putGuest { g with state := .idle }) else s
  | none => s

/-- The expiry event of a session. -/
def takeExpiry (hw : HwAddr) (s : State) : State :=
  match s.guest hw with
  | some g => if g.expiryDue s.now then s.putGuest { g with state := .expired, quota := 0, cooled := false } else s
  | none => s

/-- The cooldown-end event of a session. -/
def takeCooldownEnd (hw : HwAddr) (s : State) : State :=
  match s.guest hw with
  | some g => if g.cooldownDue s.now then armGuestFull (s.putGuest { g with cooled := true }) else s
  | none => s

/-- Every session's due events, session by session, each in the order idle, expiry, cooldown end (R142 at a CLOCK-SET). -/
def takeAllGuestEvents (s : State) : State :=
  (s.gat.sessions.map (·.hw)).foldl (fun s hw => takeCooldownEnd hw (takeExpiry hw (takeIdle hw s))) s

/-- Every ADMITTED session judged against the idle limit (R138). -/
def takeAllIdle (s : State) : State := (s.gat.sessions.map (·.hw)).foldl (fun s hw => takeIdle hw s) s

/-- After the clock is moved back before the end of a cooldown, the event is still to come (R142). DEDUCED, log 96. -/
def uncool (s : State) : State :=
  { s with gat := { s.gat with sessions := s.gat.sessions.map fun g => { g with cooled := g.cooled && g.cooldownOver s.now } } }

/-! ### Admission -/

/-- A session admitted (R143): THROTTLED at once with a quota of 0. An expires-at above the clock's range is kept as it is: DESIGN CHOICE,
log 71. -/
def GuestSession.entered (now duration quota : Nat) (g : GuestSession) : GuestSession :=
  { g with
    state := if quota = 0 then .throttled else .admitted
    admittedAt := some now, lastFrame := now, expiresAt := some (now + duration), quota := quota, used := 0, cooled := false }

/-- A session admitted on the whole part, GUEST-QUOTA queued where its quota is 0 (R143). -/
def admitGuest (duration quota : Nat) (g : GuestSession) (s : State) : State :=
  let g := g.entered s.now duration quota
  let s := s.putGuest g
  if quota = 0 then s.report g.quotaReport else s

end Sys2Proof.Machine
end

