-- ==== Sys2Proof/Machine/ForwardOps.lean ====
section
/-! DEFINITION. The Zone Forwarder's own operations: best match and zones, the Policy Matrix, traffic kinds and classes, IPv4 headers,
the egress FIFOs and the counts (07). -/

namespace Sys2Proof.Machine

/-! ### Ranges and zones (R119 to R121) -/

/-- The ones of a mask. -/
def maskOnes (m : Ipv4) : Nat := ((List.range 32).filter fun i => m.getLsbD i).length

/-- Does an entry match an address (R119)? -/
def RangeEntry.covers (a : Ipv4) (r : RangeEntry) : Bool := r.enable && (a &&& r.mask == r.base)

/-- The best match of an address: the most ones, a tie to the lower index (R119). -/
def Forwarder.bestMatch (a : Ipv4) (z : Forwarder) : Option RangeEntry :=
  bestBy (fun x y => decide (maskOnes y.mask < maskOnes x.mask)) (z.ranges.toList.filter (·.covers a))

/-- A Range Table zone among all the zones. -/
def RangeZone.zone : RangeZone → Zone
  | .store => .store
  | .till => .till
  | .headoffice => .headoffice
  | .payment => .payment
  | .blocked => .blocked

/-- The zone of an address by lines 2 and 3 of R121. -/
def Forwarder.rangeZone (a : Ipv4) (z : Forwarder) : Zone :=
  match z.bestMatch a with | some r => r.zone.zone | none => .internet

/-- The source zone by port, absent for a spoofed frame (R120). -/
def sourceZone (port : Port) (src : Ipv4) (z : Forwarder) : Option Zone :=
  match port with
  | .guest => some .guest
  | .till => some .till
  | .lan => match z.bestMatch src with
    | none => some .store
    | some r => match r.zone with
      | .headoffice => none
      | .payment => none
      | zn => some zn.zone
  | .wan => match z.bestMatch src with
    | none => some .internet
    | some r => match r.zone with
      | .store => none
      | .till => none
      | zn => some zn.zone

/-- Is an address in the guest block (R121, line 1)? -/
def GuestTable.inBlock (a : Ipv4) (g : GuestTable) : Bool := match g.portal with | some p => blockHolds p a | none => false

/-- The destination zone (R121). -/
def destZone (dst : Ipv4) (s : State) : Zone := if s.gat.inBlock dst then .guest else s.zfw.rangeZone dst

/-! ### The Policy Matrix (R122) -/

/-- The cell of a source and a destination zone; DENY where there is none. -/
def Forwarder.cell (src dst : Zone) (z : Forwarder) : Policy :=
  if src = .blocked then .deny else tget z.policy (7 * src.index + dst.index) .deny

/-- Is a cell fixed (R122)? -/
def fixedCell (src dst : Zone) : Bool :=
  let wan := fun z : Zone => z == .headoffice || z == .payment || z == .internet
  src == .guest || dst == .guest || dst == .blocked || src == .blocked || (wan src && wan dst)

/-- Does an address's best match hold the payment claim (R122)? -/
def Forwarder.claimed (a : Ipv4) (z : Forwarder) : Bool := match z.bestMatch a with | some r => r.claim | none => false

/-- Does a frame pass its cell (R122)? -/
def passes (srcZone dstZone : Zone) (src dst : Ipv4) (z : Forwarder) : Bool :=
  match z.cell srcZone dstZone with
  | .allow => true
  | .deny => false
  | .paymentOnly => if dstZone = .payment then z.claimed dst else z.claimed src

/-! ### Kinds and classes (R124, R125) -/

/-- The kind of a frame by its transport port (R124). -/
def Forwarder.kindOf (port : Option Nat) (z : Forwarder) : TrafficKind :=
  match port with
  | none => .bulk
  | some p => match z.kinds.toList.find? (fun e => match e with | some e => decide (e.low ≤ p) && decide (p ≤ e.high) | none => false) with
    | some (some e) => e.kind
    | _ => .bulk

/-- The class a hint row names for a kind (R125). -/
def HintRow.pick (h : HintRow) : TrafficKind → HintClass
  | .payment => h.payment
  | .interactive => h.interactive
  | .bulk => h.bulk
  | .control => h.control

/-- A hint class among the uplink classes. -/
def HintClass.toClass : HintClass → UplinkClass
  | .pay => .pay
  | .ctrl => .ctrl
  | .store => .store

/-- The row of the Class Hint Table for a pair of zones, where there is one (R125). -/
def hintRow (src dst : Zone) : Option Nat :=
  match src, dst with
  | .store, .headoffice => some 0
  | .store, .payment => some 1
  | .store, .internet => some 2
  | .till, .headoffice => some 3
  | .till, .payment => some 4
  | .till, .internet => some 5
  | _, _ => none

/-- The class of a forwarded frame bound for the WAN (R125). -/
def Forwarder.classOf (src dst : Zone) (port : Option Nat) (z : Forwarder) : Option UplinkClass :=
  (hintRow src dst).map fun i => ((tget z.hints i HintRow.cold).pick (z.kindOf port)).toClass

/-! ### Counts (R133) -/

/-- A change of the counts. -/
def State.onCounts (f : ForwardCounts → ForwardCounts) (s : State) : State := { s with zfw := { s.zfw with counts := f s.zfw.counts } }

/-- One more denied frame of a source zone. -/
def ForwardCounts.deny (z : Zone) (c : ForwardCounts) : ForwardCounts :=
  { c with denied := tset c.denied z.index (bump max32 (tget c.denied z.index 0)) }

/-- One more forwarded frame of a source zone. -/
def ForwardCounts.forward (z : Zone) (c : ForwardCounts) : ForwardCounts :=
  { c with forwarded := tset c.forwarded z.index (bump max32 (tget c.forwarded z.index 0)) }

/-- One more unroutable frame of a port. -/
def ForwardCounts.unroutable (p : Port) (c : ForwardCounts) : ForwardCounts :=
  match p with
  | .lan => { c with unroutableLan := bump max32 c.unroutableLan }
  | .till => { c with unroutableTill := bump max32 c.unroutableTill }
  | .guest => { c with unroutableGuest := bump max32 c.unroutableGuest }
  | .wan => { c with unroutableWan := bump max32 c.unroutableWan }

/-- One more spoofed frame of the LAN or WAN port. -/
def ForwardCounts.spoof (p : Port) (c : ForwardCounts) : ForwardCounts :=
  match p with
  | .lan => { c with spoofedLan := bump max32 c.spoofedLan }
  | .wan => { c with spoofedWan := bump max32 c.spoofedWan }
  | _ => c

/-- `k` more egress drops of a port. -/
def ForwardCounts.egressDrop (p : BranchPort) (k : Nat) (c : ForwardCounts) : ForwardCounts :=
  match p with
  | .lan => { c with dropLan := addCap max32 c.dropLan k }
  | .till => { c with dropTill := addCap max32 c.dropTill k }
  | .guest => { c with dropGuest := addCap max32 c.dropGuest k }

/-! ### Egress FIFOs (R126) -/

/-- The egress FIFO of a port. -/
def Forwarder.fifo (z : Forwarder) : BranchPort → List EgressFrame
  | .lan => z.lanFifo
  | .till => z.tillFifo
  | .guest => z.guestFifo

/-- The egress FIFO of a port replaced. -/
def Forwarder.setFifo (z : Forwarder) (p : BranchPort) (l : List EgressFrame) : Forwarder :=
  match p with
  | .lan => { z with lanFifo := l }
  | .till => { z with tillFifo := l }
  | .guest => { z with guestFifo := l }

/-- A frame bound for a port joins its FIFO and is counted forwarded, or is dropped (R126, R133). DEDUCED, log 27. -/
def enqueueEgress (p : BranchPort) (src : Zone) (f : EgressFrame) (s : State) : State :=
  if (s.zfw.fifo p).length < 256 then
    State.onCounts (·.forward src) { s with zfw := s.zfw.setFifo p (s.zfw.fifo p ++ [f]) }
  else s.onCounts (·.egressDrop p 1)

/-- The guest egress FIFO discarded (R126). -/
def discardGuestFifo (s : State) : State :=
  State.onCounts (·.egressDrop .guest s.zfw.guestFifo.length) { s with zfw := { s.zfw with guestFifo := [] } }

/-! ### Spoofed frames (R120) -/

/-- The elapsed second of the last spoof fault of a port. -/
def Forwarder.lastSpoof (p : Port) (z : Forwarder) : Option Nat :=
  match p with
  | .lan => z.spoofLan
  | .wan => z.spoofWan
  | _ => none

/-- That second set. -/
def Forwarder.setSpoof (p : Port) (t : Nat) (z : Forwarder) : Forwarder :=
  match p with
  | .lan => { z with spoofLan := some t }
  | .wan => { z with spoofWan := some t }
  | _ => z

/-- Is fault 302 to be logged: none yet on this port, or 60 s since the last (R120)? -/
def spoofFaultDue (elapsed : Nat) (last : Option Nat) : Bool := match last with | none => true | some t => decide (t + 60 ≤ elapsed)

/-- A spoofed frame dropped (R120). -/
def dropSpoofed (p : Port) (src : Ipv4) (s : State) : State :=
  let due := spoofFaultDue s.elapsed (s.zfw.lastSpoof p)
  let s := s.onCounts (·.spoof p)
  if due then State.logFault .route 302 (.spoofed p src) { s with zfw := s.zfw.setSpoof p s.elapsed } else s

/-! ### IPv4 (R118) -/

/-- What the Zone Forwarder reads from a frame it forwards (R118). -/
structure Packet where
  src      : Ipv4
  dst      : Ipv4
  protocol : Nat
  port     : Option Nat
  ttl      : Nat
  header   : Nat
  total    : Nat
  octets   : List Octet
  deriving DecidableEq, Repr

/-- Octet `i` of a frame, 0 past its end. -/
def octetAt (os : List Octet) (i : Nat) : Nat := ((os[i]?).getD 0).toNat

/-- The 16-bit word at octet `i`. -/
def wordAt (os : List Octet) (i : Nat) : Nat := octetAt os i * 256 + octetAt os (i + 1)

/-- The 32-bit address at octet `i`. -/
def addrAt (os : List Octet) (i : Nat) : Ipv4 := BitVec.ofNat 32 (wordAt os i * 65536 + wordAt os (i + 2))

/-- The plain sum of the 16-bit words of a run of octets. -/
def plainSum : List Octet → Nat
  | a :: b :: rest => a.toNat * 256 + b.toNat + plainSum rest
  | [a] => a.toNat * 256
  | [] => 0

/-- One's complement sum of the words, as the IPv4 header checksum uses it (PRESUMED, log 21). -/
def onesSum (os : List Octet) : Nat := let n := plainSum os; if n = 0 then 0 else (n - 1) % 65535 + 1

/-- The transport port of a TCP or UDP frame that is not a later fragment (R118). -/
def transportPort (os : List Octet) (header total protocol : Nat) : Option Nat :=
  if (protocol = 6 ∨ protocol = 17) ∧ wordAt os 6 % 8192 = 0 ∧ header + 4 ≤ total then some (wordAt os (header + 2)) else none

/-- An IPv4 header that can be decoded (R118). -/
def parsePacket (os : List Octet) : Option Packet :=
  let header := octetAt os 0 % 16 * 4
  let total := wordAt os 2
  if octetAt os 0 / 16 = 4 ∧ 20 ≤ header ∧ header ≤ os.length ∧ total ≤ os.length ∧ header ≤ total
      ∧ onesSum (os.take header) = 65535 then
    some ⟨addrAt os 12, addrAt os 16, octetAt os 9, transportPort os header total (octetAt os 9), octetAt os 8, header, total, os⟩
  else none

/-- The octets of a frame with one word replaced. -/
def setWord (os : List Octet) (i w : Nat) : List Octet := os.take i ++ be 2 w ++ os.drop (i + 2)

/-- A frame as it is forwarded: its time-to-live less 1, its header checksum computed again (R118). -/
def Packet.forwarded (p : Packet) : List Octet :=
  let os := setWord (setWord p.octets 8 ((p.ttl - 1) * 256 + p.protocol)) 10 0
  setWord os 10 (65535 - onesSum (os.take p.header))

end Sys2Proof.Machine
end

