-- ==== Sys2Proof/Machine/Guests.lean ====
section
/-! DEFINITION. The guest requests, R138 and R143 to R145, and the sessions' timed events (R142). -/

namespace Sys2Proof.Machine

/-- The service state set; on closing the guest egress FIFO is discarded (R126, R138). -/
def setService (o : Bool) (s : State) : State :=
  let s' := { s with gat := { s.gat with isOpen := o } }
  if s.gat.isOpen && !o then discardGuestFifo s' else s'

/-- The idle limit set, where one is given, and applied at once (R138). -/
def setIdleLimit (limit : Option Nat) (s : State) : State :=
  match limit with
  | none => s
  | some n => takeAllIdle { s with gat := { s.gat with idleLimit := clamp 60 3600 n } }

/-- The GAT takes a GUEST-SERVICE (R138). -/
def guestService (a : GuestServiceArgs) (s : State) : State × Reply :=
  match serviceOf a.service with
  | none => (s, .refuse .badField)
  | some o => (setIdleLimit a.idle (setService o s), .okClamped (a.idle.any fun n => decide (clamp 60 3600 n ≠ n)))

/-- GUEST-SERVICE (R138). -/
def execGuestService (tag : Nat) (args : Option GuestServiceArgs) (s : State) : Out :=
  .next (hostRequest tag (withBody args guestService) s)

/-- May GUEST-ADMIT act on a session (R143)? -/
def GuestState.admissible : GuestState → Bool
  | .pending => true
  | .idle => true
  | .expired => true
  | _ => false

/-- The reply of an accepted GUEST-ADMIT: its expires-at (R143). -/
def admitReply (duration now : Nat) : Reply :=
  .ok (.number 4 (now + clamp 60 86400 duration)) (if clamp 60 86400 duration ≠ duration then [.clamped] else [])

/-- The GAT takes a GUEST-ADMIT whose fields stand (R143). -/
def admitDevice (a : GuestAdmitArgs) (s : State) : State × Reply :=
  match s.guest a.hw with
  | some g =>
    if g.state.admissible then (admitGuest (clamp 60 86400 a.duration) a.quota g s, admitReply a.duration s.now)
    else (s, .refuse .state)
  | none => match makeRoom s with
    | none => (s, .refuse .full)
    | some s => (admitGuest (clamp 60 86400 a.duration) a.quota (.fresh a.hw s.now) s, admitReply a.duration s.now)

/-- The GAT takes a GUEST-ADMIT (R143). -/
def guestAdmit (a : GuestAdmitArgs) (s : State) : State × Reply :=
  if isGroup a.hw || decide (max32 < a.quota) then (s, .refuse .badField) else admitDevice a s

/-- GUEST-ADMIT (R143). -/
def execGuestAdmit (tag : Nat) (args : Option GuestAdmitArgs) (s : State) : Out := .next (hostRequest tag (withBody args guestAdmit) s)

/-- The GAT takes a GUEST-BAR (R144). -/
def guestBar (hw : HwAddr) (s : State) : State × Reply :=
  if isGroup hw then (s, .refuse .badField)
  else match s.guest hw with
    | some g => (s.putGuest { g with state := .barred }, .okay)
    | none => match makeRoom s with
      | none => (s, .refuse .full)
      | some s => (s.putGuest { GuestSession.fresh hw s.now with state := .barred }, .okay)

/-- GUEST-BAR (R144). -/
def execGuestBar (tag : Nat) (hw : Option HwAddr) (s : State) : Out := .next (hostRequest tag (withBody hw guestBar) s)

/-- The GAT takes a GUEST-END (R140, R144). -/
def guestEnd (hw : HwAddr) (s : State) : State × Reply :=
  if isGroup hw then (s, .refuse .badField)
  else match s.guest hw with
    | none => (s, .notFound .session)
    | some _ => (armGuestFull (s.dropGuest hw), .okay)

/-- GUEST-END (R144). -/
def execGuestEnd (tag : Nat) (hw : Option HwAddr) (s : State) : Out := .next (hostRequest tag (withBody hw guestEnd) s)

/-- What GUEST-GET answers (R145). -/
def guestView (hw : Option HwAddr) (s : State) : GuestView :=
  ⟨hw.bind fun h => s.guest h, s.gat.isOpen, s.gat.idleLimit, s.gat.portal, s.gat.census, s.gat.evictions, s.gat.fullArmed, s.gat.drops⟩

/-- The GAT takes a GUEST-GET (R145). -/
def guestGet (hw : Option HwAddr) (s : State) : State × Reply :=
  if hw.any isGroup then (s, .refuse .badField) else (s, .ok (.guest (guestView hw s)) [])

/-- GUEST-GET (R145). -/
def execGuestGet (tag : Nat) (hw : Option (Option HwAddr)) (s : State) : Out := .next (hostRequest tag (withBody hw guestGet) s)

/-- GUEST_IDLE (R142). -/
def execGuestIdle (hw : HwAddr) (s : State) : Out := .next (whileRunning (takeIdle hw) s)

/-- GUEST_EXPIRY (R142). -/
def execGuestExpiry (hw : HwAddr) (s : State) : Out := .next (whileRunning (takeExpiry hw) s)

/-- GUEST_COOLDOWN_END (R142). -/
def execGuestCooldownEnd (hw : HwAddr) (s : State) : Out := .next (whileRunning (takeCooldownEnd hw) s)

end Sys2Proof.Machine
end

