-- ==== Sys2Proof/Machine/HostPort.lean ====
section
/-! DEFINITION. The port requests, R185 to R187 and R190, the Message Port's events, R179 to R182, and the Branch Clock's tick, R187. -/

namespace Sys2Proof.Machine

/-- The clock takes a reading, and CLOCK_SET becomes true (R187); the next radio frame is numbered by that reading (R82). DEDUCED,
log 34. -/
def setClock (t : Nat) (s : State) : State :=
  { s with
    msp := { s.msp with clock := { s.msp.clock with reading := t, isSet := true } }, lrc := { s.lrc with frameDue := true } }

/-- The instants a jump passes over are taken (R11, R142, R172, R187; their order is log 8). -/
def passInstants (s : State) : State := scheduleDue (takeAllGuestEvents (judgeAllLags (uncool s)))

/-- The MSP takes a CLOCK-SET (R187). -/
def clockSet (t : Nat) (s : State) : State × Reply := (passInstants (setClock t s), .ok (.clock s.now t) [])

/-- CLOCK-SET (R187). -/
def execClockSet (tag : Nat) (reading : Option Nat) (s : State) : Out := .next (hostRequest tag (withBody reading clockSet) s)

/-- The MSP takes an IDENTIFY (R186). -/
def identify (s : State) : State × Reply := (s, .ok (.identity identity) [])

/-- IDENTIFY (R186). -/
def execIdentify (tag : Nat) (empty : Bool) (s : State) : Out := .next (hostRequest tag (withoutBody empty identify) s)

/-- The MSP takes a FAULT-READ (R185). -/
def faultRead (d : Nat) (s : State) : State × Reply :=
  match domainOf d with
  | some d => (s, .ok (.fault (s.msp.faultRecord d)) [])
  | none => (s, .refuse .badField)

/-- FAULT-READ (R185). -/
def execFaultRead (tag : Nat) (domain : Option Nat) (s : State) : Out := .next (hostRequest tag (withBody domain faultRead) s)

/-- A Fault Record cleared, its sequence kept (R185). -/
def clearFault (d : FaultDomain) (s : State) : State :=
  { s with msp := s.msp.setFaultRecord d ⟨(s.msp.faultRecord d).seq, none⟩ }

/-- The MSP takes a FAULT-CLEAR (R185). -/
def faultClear (a : FaultClearArgs) (s : State) : State × Reply :=
  match domainOf a.domain with
  | none => (s, .refuse .badField)
  | some d =>
    if (s.msp.faultRecord d).held.isNone then (s, .refuse .state)
    else if (s.msp.faultRecord d).seq ≠ a.seq then (s, .refused .staleClear (.sequence (s.msp.faultRecord d).seq))
    else (clearFault d s, .okay)

/-- FAULT-CLEAR (R185). -/
def execFaultClear (tag : Nat) (args : Option FaultClearArgs) (s : State) : Out := .next (hostRequest tag (withBody args faultClear) s)

/-- The MSP takes a RESET of a known kind: its reply, once read, begins the start. A second RESET before that is answered too, and the
first, whose reply is read first, keeps its kind (R190). DEDUCED, log 45. -/
def takeReset (tag : Nat) (k : ResetKind) (s : State) : State :=
  State.addReply tag .resetRequest .okay { s with msp := { s.msp with resetTaken := s.msp.resetTaken.or (some k) } }

/-- A RESET request frame (R180, R190). -/
def resetFrame (tag : Nat) (kind : Option Nat) (s : State) : State :=
  match kind.bind resetKindOf with
  | some k => if s.canTake then takeReset tag k s else hostRequest tag (fun s => (s, .okay)) s
  | none => hostRequest tag (fun s => (s, .refuse .badField)) s

/-- RESET (R190). -/
def execReset (tag : Nat) (kind : Option Nat) (s : State) : Out := .next (resetFrame tag kind s)

/-- UNKNOWN_KIND: a frame of no request kind is answered at once (R180). -/
def execUnknownKind (tag _kind : Nat) (s : State) : Out :=
  .next (if s.takesFrames then s.refuseAtOnce tag .unknownKind else s)

/-- FRAME_ERROR: octets or a frame discarded (R179); none is counted while the port takes no frames (R189, R190). -/
def execFrameError (cause : FrameErrorCause) (s : State) : Out := .next (if s.takesFrames then s.frameErrorSeen cause else s)

/-- A frame is sent to the host (R182). -/
def sendHost (f : HostFrame) (s : State) : State := { s with out := { s.out with host := some f } }

/-- The start that the reading of a RESET's reply begins (R190). -/
def beginReset (s : State) : State := match s.msp.resetTaken with | some k => { s with power := .resetting k } | none => s

/-- The oldest ready reply is read (R182, R190). -/
def readReply (r : ReadyReply) (rest : List ReadyReply) (s : State) : State :=
  let s := sendHost (.reply r.tag r.reply) { s with msp := { s.msp with replies := rest } }
  if r.place = .resetRequest then beginReset s else s

/-- The host reads: the oldest reply, else the head report, else EMPTY (R182). -/
def hostReads (s : State) : State :=
  match s.msp.replies, s.msp.reports with
  | r :: rest, _ => readReply r rest s
  | [], r :: rest => sendHost (.report r) { s with msp := { s.msp with reports := rest } }
  | [], [] => sendHost .empty s

/-- HOST_READ (R182). -/
def execHostRead (s : State) : Out := .next (whileRunning hostReads s)

/-- One second passes on the Branch Clock, which stands at its maximum; a new reading makes a radio frame due (R82, R187). -/
def tick (s : State) : State :=
  let moved := decide (s.now < max32)
  let s := { s with msp := { s.msp with clock := { s.msp.clock with reading := bump max32 s.now, elapsed := s.elapsed + 1 } } }
  if moved ∧ s.power = .running then s.onLrc fun l => { l with frameDue := true } else s

/-- BRANCH_CLOCK_TICK: the clock also counts on backup supply (R187). -/
def execBranchClockTick (s : State) : Out := .next (tick s)

end Sys2Proof.Machine
end

