-- ==== Sys2Proof/Machine/Items.lean ====
section
/-! DEFINITION. The item requests, R12 to R20, and the clock's reaching of a lag report's time, R11. -/

namespace Sys2Proof.Machine

/-- The price a PRICE record gives as old: that of the record's current, absent with no current or no record (R13, R68). A DAMAGED record's is
that of the current it keeps. DEDUCED, log 17. -/
def oldUnit (r : Option ItemRecord) : Option Nat := (r.bind (·.current)).map (·.unit)

/-- A request on the record of a code: BAD_FIELD out of range, NOT_FOUND where no record has it (R15 to R18). That both come before
ITEM-PRICE's other refusals is DESIGN CHOICE, log 61. -/
def withItem (code : Nat) (f : ItemRecord → State → State × Reply) (s : State) : State × Reply :=
  if codeOk code then
    match s.item code with
    | some r => f r s
    | none => (s, .notFound .item)
  else (s, .refuse .badField)

/-- ITEM-PUT of a code that no record has (R14). That a full table is refused before the journal is asked is DESIGN CHOICE, log 62. -/
def putNew (a : ItemPutArgs) (p : PriceRecord) (mem : MemFaults) (s : State) : State × Reply :=
  if s.itb.items.length < maxItems then
    match journalAppend mem (.price a.code none (some p.unit) .itemPut) s with
    | (s, some _) => (s.putItem { ItemRecord.fresh a.code a.desc a.band with current := some p }, .okNumber 2 0)
    | (s, none) => (s, .refuse .full)
  else (s, .refuse .full)

/-- ITEM-PUT of a record that exists: the change of current, then the description, the band and DAMAGED cleared (R14). -/
def putExisting (a : ItemPutArgs) (p : PriceRecord) (mem : MemFaults) (r : ItemRecord) (s : State) : State × Reply :=
  match journalAppend mem (.price a.code (oldUnit (some r)) (some p.unit) .itemPut) s with
  | (s, some _) =>
    (changeCurrent mem p (fun x => { x with desc := a.desc, band := a.band, damaged := false }) r s,
     .okNumber 2 (wrap16 r.version))
  | (s, none) => (s, .refuse .full)

/-- The ITB takes an ITEM-PUT (R14). The order of its refusals is DESIGN CHOICE, log 62. -/
def itemPut (a : ItemPutArgs) (mem : MemFaults) (s : State) : State × Reply :=
  if codeOk a.code && descBandOk a.desc a.band then
    match checkPrice a.price with
    | .error e => (s, .refuse e)
    | .ok p => match s.item a.code with
      | none => putNew a p mem s
      | some r => putExisting a p mem r s
  else (s, .refuse .badField)

/-- ITEM-PUT (R14). -/
def execItemPut (tag : Nat) (args : Option ItemPutArgs) (mem : MemFaults) (s : State) : Out :=
  .next (hostRequest tag (withBody args fun a => itemPut a mem) s)

/-- The ITB takes an ITEM-PRICE on a record that exists (R15). The order of its refusals is DESIGN CHOICE, log 61. -/
def itemPrice (a : ItemPriceArgs) (mem : MemFaults) (r : ItemRecord) (s : State) : State × Reply :=
  match checkPrice a.price with
  | .error e => (s, .refuse e)
  | .ok p =>
    if r.damaged then (s, .refuse .state)
    else match journalAppend mem (.price a.code (oldUnit (some r)) (some p.unit) .itemPrice) s with
      | (s, some _) => (changeCurrent mem p id r s, .okNumber 2 (wrap16 r.version))
      | (s, none) => (s, .refuse .full)

/-- ITEM-PRICE (R15). -/
def execItemPrice (tag : Nat) (args : Option ItemPriceArgs) (mem : MemFaults) (s : State) : Out :=
  .next (hostRequest tag (withBody args fun a => withItem a.code (itemPrice a mem)) s)

/-- The ITB takes an ITEM-DELETE (R16). -/
def itemDelete (mem : MemFaults) (r : ItemRecord) (s : State) : State × Reply :=
  match journalAppend mem (.price r.code (oldUnit (some r)) none .itemDelete) s with
  | (s, some _) => (removeItem r s, .okay)
  | (s, none) => (s, .refuse .full)

/-- ITEM-DELETE (R16). -/
def execItemDelete (tag : Nat) (code : Option Nat) (mem : MemFaults) (s : State) : Out :=
  .next (hostRequest tag (withBody code fun c => withItem c (itemDelete mem)) s)

/-- The record as ITEM-GET gives it: current and previous absent where it is DAMAGED (R17). -/
def ItemRecord.shown (r : ItemRecord) : ItemRecord := if r.damaged then { r with current := none, previous := none } else r

/-- The ITB takes an ITEM-GET, which reads the record and so checks it (R17, R22). -/
def itemGet (mem : MemFaults) (r : ItemRecord) (s : State) : State × Reply :=
  let s := checkItem mem r.code s
  (s, .ok (.item ((s.item r.code).getD r).shown s.itb.epoch s.itb.pendingBatch) [])

/-- ITEM-GET (R17). -/
def execItemGet (tag : Nat) (code : Option Nat) (mem : MemFaults) (s : State) : Out :=
  .next (hostRequest tag (withBody code fun c => withItem c (itemGet mem)) s)

/-- The BLOCKED flag of a record set or cleared (R18). -/
def setBlocked (b : Bool) (r : ItemRecord) (s : State) : State × Reply := (s.putItem { r with blocked := b }, .okay)

/-- ITEM-BLOCK (R18). -/
def execItemBlock (tag : Nat) (code : Option Nat) (s : State) : Out :=
  .next (hostRequest tag (withBody code fun c => withItem c (setBlocked true)) s)

/-- ITEM-UNBLOCK (R18). -/
def execItemUnblock (tag : Nat) (code : Option Nat) (s : State) : Out :=
  .next (hostRequest tag (withBody code fun c => withItem c (setBlocked false)) s)

/-- The record after an accepted LAG-ACCEPT: its lagging labels marked in the copy, nothing counted, previous and the lag fields
gone (R7, R12). -/
def ItemRecord.lagAccepted (r : ItemRecord) : ItemRecord :=
  { r with
    labels := r.labels.map fun l => if l.confirmed = some r.version then l else { l with excluded := true }
    count := 0, previous := none, lagStart := none, lagReported := false }

/-- The ITB takes a LAG-ACCEPT (R12). -/
def lagAccept (mem : MemFaults) (r : ItemRecord) (s : State) : State × Reply :=
  if r.count = 0 then (s, .okNumber 1 0)
  else match journalAppend mem (.lag r.code r.count) s with
    | (s, none) => (s, .refuse .full)
    | (s, some _) =>
      (({ s with lrc := (s.lrc.exclude r.code r.version).1 }).putItem r.lagAccepted, .okNumber 1 (s.lrc.exclude r.code r.version).2)

/-- LAG-ACCEPT (R12). -/
def execLagAccept (tag : Nat) (code : Option Nat) (mem : MemFaults) (s : State) : Out :=
  .next (hostRequest tag (withBody code fun c => withItem c (lagAccept mem)) s)

/-- The ITB takes a TAX-SET (R19). -/
def taxSet (a : TaxArgs) (s : State) : State × Reply :=
  if a.band ≤ 7 then
    ({ s with itb := { s.itb with rates := tset s.itb.rates a.band (min a.rate 9999) } }, .okClamped (decide (9999 < a.rate)))
  else (s, .refuse .badField)

/-- TAX-SET (R19). -/
def execTaxSet (tag : Nat) (args : Option TaxArgs) (s : State) : Out := .next (hostRequest tag (withBody args taxSet) s)

/-- The ITB takes a PRICE-PARAMS: items past the new limit are due at that moment (R11, R20). -/
def priceParams (limit : Nat) (s : State) : State × Reply :=
  (judgeAllLags { s with itb := { s.itb with lagLimit := clamp 60 7200 limit } }, .okClamped (decide (clamp 60 7200 limit ≠ limit)))

/-- PRICE-PARAMS (R20). -/
def execPriceParams (tag : Nat) (limit : Option Nat) (s : State) : Out := .next (hostRequest tag (withBody limit priceParams) s)

/-- LAG_DUE: the clock has reached an item's due reading (R11). -/
def execLagDue (code : Nat) (s : State) : Out := .next (whileRunning (judgeLag code) s)

end Sys2Proof.Machine
end

