-- ==== Sys2Proof/Machine/JournalRequests.lean ====
section
/-! DEFINITION. The journal requests, R76 and R77. -/

namespace Sys2Proof.Machine

/-- What JOURNAL-STATUS answers (R77). -/
def Journal.view (j : Journal) : JournalStatusView :=
  ⟨j.oldest, j.mark, j.append, j.held, j.reclaimable, j.unuploaded, j.free, j.records.length,
   (j.records.filter j.isAcknowledged).length, j.limit, j.highArmed, j.fullArmed, j.fullRefusals,
   (j.records.filter (·.damaged)).length⟩

/-- The journal takes a JOURNAL-STATUS (R77). -/
def journalStatus (s : State) : State × Reply := (s, .ok (.journalStatus s.jnl.view) [])

/-- JOURNAL-STATUS (R77). -/
def execJournalStatus (tag : Nat) (empty : Bool) (s : State) : Out := .next (hostRequest tag (withoutBody empty journalStatus) s)

/-- One page of a held record as JOURNAL-READ answers it, after its check (R76). -/
def JournalRecord.view (mem : MemFaults) (index : Nat) (acknowledged : Bool) (r : JournalRecord) : JournalPageView :=
  ⟨r.content.kind, r.seq, r.pages, r.time, r.clockSet, (r.afterRead mem index).damaged, r.readPage mem index, acknowledged⟩

/-- The journal takes a JOURNAL-READ (R76). BAD_FIELD before NOT_FOUND is DESIGN CHOICE, log 85. -/
def journalRead (mem : MemFaults) (a : JournalReadArgs) (s : State) : State × Reply :=
  let i := a.page.getD 0
  if a.seq = 0 ∨ 50 < i then (s, .refuse .badField)
  else match s.jnl.records.find? (fun r => r.seq == a.seq) with
    | none => (s, .notFound .record)
    | some r =>
      if i < r.pages then (checkPage mem r i s, .ok (.journalPage (r.view mem i (s.jnl.isAcknowledged r))) [])
      else (s, .notFound .record)

/-- JOURNAL-READ (R76). -/
def execJournalRead (tag : Nat) (args : Option JournalReadArgs) (mem : MemFaults) (s : State) : Out :=
  .next (hostRequest tag (withBody args (journalRead mem)) s)

end Sys2Proof.Machine
end

