-- ==== Sys2Proof/Machine/Labels.lean ====
section
/-! DEFINITION. The label requests, R96 to R102. -/

namespace Sys2Proof.Machine

/-- A label request with an address and perhaps a template: BAD_FIELD out of range, NOT_FOUND for a template without published
content (section 5.7). BAD_FIELD before NOT_FOUND is DESIGN CHOICE, log 75. -/
def withLabel (a : LabelAddr) (template : Option Nat) (f : State → State × Reply) (s : State) : State × Reply :=
  if addrOk a && slotOptOk template then
    if s.tps.holds (template.getD 0) then f s else (s, .notFound .template)
  else (s, .refuse .badField)

/-- An existing entry's template set, with a cause of reason BIND where it differs (R96, R97). -/
def setTemplate (t : Nat) (e : LabelEntry) (s : State) : State :=
  if e.template = t then s else s.onLrc fun l => (l.put { e with template := t }).cause s.now .bind e.addr

/-- The LRC takes a LABEL-ADD (R96). -/
def labelAdd (a : LabelAddArgs) (s : State) : State × Reply :=
  match s.lrc.entry a.addr with
  | none => (s.onLrc fun l => l.create s.now a.addr none (a.template.getD 0), .okay)
  | some e => (setTemplate (a.template.getD 0) e s, .ok .empty [.existed])

/-- LABEL-ADD (R96). -/
def execLabelAdd (tag : Nat) (args : Option LabelAddArgs) (s : State) : Out :=
  .next (hostRequest tag (withBody args fun a => withLabel a.addr a.template (labelAdd a)) s)

/-- The pending-label count of an item, 0 where no record has the code. -/
def itemCount (code : Nat) (s : State) : Nat := match s.item code with | some r => r.count | none => 0

/-- An unbind notice for the item an entry is bound to, if any (R6). -/
def unbindOld (e : LabelEntry) (s : State) : State := match e.item with | some c => unbindNotice c e.addr s | none => s

/-- An entry rebound to another item: the old item loses the label before the new one counts it (R97). -/
def rebind (a : LabelBindArgs) (e : LabelEntry) (s : State) : State :=
  let s := bindNotice a.code a.addr (unbindOld e s)
  s.onLrc fun l =>
    (l.put { e with item := some a.code, template := a.template.getD e.template, confirmed := none, excluded := false }).cause
      s.now .bind a.addr

/-- A bind the Item Table is asked for (R6, R97). -/
def presentBind (a : LabelBindArgs) (e : Option LabelEntry) (s : State) : State × Reply :=
  match bindRefusal (s.item a.code) with
  | some r => (s, r)
  | none => match e with
    | none =>
      let s := (bindNotice a.code a.addr s).onLrc fun l => l.create s.now a.addr (some a.code) (a.template.getD 0)
      (s, .okNumber 1 (itemCount a.code s))
    | some e => (rebind a e s, .okNumber 1 (itemCount a.code (rebind a e s)))

/-- The LRC takes a LABEL-BIND whose fields and template stand (R97). That the Item Table is not asked about a label already bound to the item
is DESIGN CHOICE, log 101. -/
def labelBind (a : LabelBindArgs) (s : State) : State × Reply :=
  match s.lrc.entry a.addr with
  | some e =>
    if e.item = some a.code then
      (setTemplate (a.template.getD e.template) e s, .okNumber 1 (itemCount a.code s))
    else presentBind a (some e) s
  | none => presentBind a none s

/-- LABEL-BIND (R97). -/
def execLabelBind (tag : Nat) (args : Option LabelBindArgs) (s : State) : Out :=
  .next (hostRequest tag (withBody args fun a s =>
    if codeOk a.code then withLabel a.addr a.template (labelBind a) s else (s, .refuse .badField)) s)

/-- A request on the entry of an address: BAD_FIELD out of range, NOT_FOUND without an entry (R98, R99). -/
def withEntry (a : LabelAddr) (f : LabelEntry → State → State × Reply) (s : State) : State × Reply :=
  if addrOk a then
    match s.lrc.entry a with
    | some e => f e s
    | none => (s, .notFound .label)
  else (s, .refuse .badField)

/-- The LRC takes a LABEL-UNBIND (R98). -/
def labelUnbind (e : LabelEntry) (s : State) : State × Reply :=
  match e.item with
  | none => (s, .refuse .state)
  | some c => ((unbindNotice c e.addr s).onLrc fun l => l.loseItem s.now e.addr, .okay)

/-- LABEL-UNBIND (R98). -/
def execLabelUnbind (tag : Nat) (addr : Option LabelAddr) (s : State) : Out :=
  .next (hostRequest tag (withBody addr fun a => withEntry a labelUnbind) s)

/-- An entry removed, with its queue entry (R99). -/
def LabelRadio.remove (a : LabelAddr) (l : LabelRadio) : LabelRadio :=
  { l.leave a with directory := dropKey LabelEntry.key (addrKey a) l.directory }

/-- The LRC takes a LABEL-REMOVE (R99). -/
def labelRemove (e : LabelEntry) (s : State) : State × Reply := ((unbindOld e s).onLrc (·.remove e.addr), .okay)

/-- LABEL-REMOVE (R99). -/
def execLabelRemove (tag : Nat) (addr : Option LabelAddr) (s : State) : Out :=
  .next (hostRequest tag (withBody addr fun a => withEntry a labelRemove) s)

/-- A label's place in the queue (R100). -/
def LabelRadio.queueView (a : LabelAddr) (l : LabelRadio) : Option QueueView :=
  (l.queued a).map fun q => ⟨q.reason, q.kind, q.joined, (l.queue.takeWhile fun x => x.addr != a).length⟩

/-- How many queue entries have a reason (R100). -/
def LabelRadio.queuedFor (r : Reason) (l : LabelRadio) : Nat := (l.queue.filter fun q => q.reason == r).length

/-- What LABEL-GET answers (R100). -/
def LabelRadio.view (a : LabelAddr) (l : LabelRadio) : LabelView :=
  let r := l.rail a.rail
  ⟨l.entry a, l.queueView a, r, interval r.code, (interval r.code).map (a.rail % ·), l.queuedFor .price, l.queuedFor .bind,
   l.queuedFor .template, l.retryLimit, l.presence, l.port, l.stale⟩

/-- The LRC takes a LABEL-GET (R100). -/
def labelGet (a : LabelAddr) (s : State) : State × Reply :=
  if addrOk a then (s, .ok (.label (s.lrc.view a)) []) else (s, .refuse .badField)

/-- LABEL-GET (R100). -/
def execLabelGet (tag : Nat) (addr : Option LabelAddr) (s : State) : Out := .next (hostRequest tag (withBody addr labelGet) s)

/-- The rails from `first` to `last` take a code (R101). -/
def LabelRadio.setCodes (first last code : Nat) (l : LabelRadio) : LabelRadio :=
  { l with rails := Vector.ofFn fun i => if first ≤ i.val ∧ i.val ≤ last then { l.rails[i] with code := code } else l.rails[i] }

/-- The LRC takes a RAIL-SET (R101). -/
def railSet (a : RailSetArgs) (s : State) : State × Reply :=
  if a.first ≤ a.last ∧ a.last ≤ 1023 ∧ a.code ≤ 255 then
    (s.onLrc (·.setCodes a.first a.last a.code), .okNumber 2 (a.last + 1 - a.first))
  else (s, .refuse .badField)

/-- RAIL-SET (R101). -/
def execRailSet (tag : Nat) (args : Option RailSetArgs) (s : State) : Out := .next (hostRequest tag (withBody args railSet) s)

/-- The LRC takes a LABEL-PARAMS (R102). -/
def labelParams (a : LabelParamsArgs) (s : State) : State × Reply :=
  (s.onLrc fun l => { l with retryLimit := clamp 1 15 a.retry, presence := clamp 3600 86400 a.presence },
   .okClamped (decide (clamp 1 15 a.retry ≠ a.retry) || decide (clamp 3600 86400 a.presence ≠ a.presence)))

/-- LABEL-PARAMS (R102). -/
def execLabelParams (tag : Nat) (args : Option LabelParamsArgs) (s : State) : Out :=
  .next (hostRequest tag (withBody args labelParams) s)

end Sys2Proof.Machine
end

