-- ==== Sys2Proof/Machine/Tills.lean ====
section
/-! DEFINITION. The till requests, R40 and R57 to R60, and the TSU's own timers: poll times, reconnect windows and abandon retries
(R46, R47, R56). -/

namespace Sys2Proof.Machine

/-- A request on a lane: BAD_FIELD outside 1..64. -/
def withLane (lane : Nat) (f : Nat → State → State × Reply) (s : State) : State × Reply :=
  if laneOk lane then f lane s else (s, .refuse .badField)

/-- Does a roster entry admit a till (R39, R45)? -/
def RosterEntry.admits (e : RosterEntry) (t : Text) : Bool := e.allowed && e.tillId == t

/-- Does a roster entry still admit the till that joined (R40)? -/
def RosterEntry.admitsJoined (e : RosterEntry) (x : Session) : Bool := match x.tillId with | some t => e.admits t | none => false

/-- A roster entry replaced; a present till it no longer admits is LOST (R40). -/
def setRoster (lane : Nat) (e : RosterEntry) (s : State) : State :=
  let s := { s with tsu := { s.tsu with roster := tset s.tsu.roster (lane - 1) e } }
  if (s.session lane).state.isPresent && !e.admitsJoined (s.session lane) then enterLost lane .roster s else s

/-- The TSU takes a ROSTER-SET (R40). -/
def rosterSet (a : RosterArgs) (s : State) : State × Reply :=
  match policyOf a.policy with
  | some p =>
    if laneOk a.lane && tillIdOk a.tillId && decide (a.band ≤ 7) then
      (setRoster a.lane ⟨a.tillId, a.allowed, p, a.band⟩ s, .okay)
    else (s, .refuse .badField)
  | none => (s, .refuse .badField)

/-- ROSTER-SET (R40). -/
def execRosterSet (tag : Nat) (args : Option RosterArgs) (s : State) : Out := .next (hostRequest tag (withBody args rosterSet) s)

/-- What TILL-STATUS answers (R59). -/
def tillView (lane : Nat) (s : State) : TillStatusView :=
  let b := s.basket lane
  ⟨s.roster lane, s.session lane, b, b.lines.length, (b.lines.filter (·.voided)).length, runningTotal b.lines,
   s.tsu.pollPeriod, s.tsu.window, s.tsu.hold, s.tsu.openCount, s.tsu.malformed⟩

/-- A set service flag is cleared, and a SEEN owed for it (R48, R59). -/
def Session.statusTaken (x : Session) : Session := if x.service then { x with service := false, seenOwed := true } else x

/-- The TSU takes a TILL-STATUS (R59). -/
def tillStatus (lane : Nat) (s : State) : State × Reply :=
  (s.setSession lane (s.session lane).statusTaken, .ok (.tillStatus (tillView lane s)) [])

/-- TILL-STATUS (R59). -/
def execTillStatus (tag : Nat) (lane : Option Nat) (s : State) : Out :=
  .next (hostRequest tag (withBody lane fun l => withLane l tillStatus) s)

/-- A lane's lockout flag set or cleared; a present session settles (R44, R57). -/
def setLockout (b : Bool) (lane : Nat) (s : State) : State := settle lane (s.setSession lane { s.session lane with lockout := b })

/-- The TSU takes a TILL-LOCKOUT (R57). -/
def tillLockout (lane : Nat) (s : State) : State × Reply :=
  if (s.session lane).lockout then (s, .okay) else (setLockout true lane s, .okay)

/-- TILL-LOCKOUT (R57). -/
def execTillLockout (tag : Nat) (lane : Option Nat) (s : State) : Out :=
  .next (hostRequest tag (withBody lane fun l => withLane l tillLockout) s)

/-- The TSU takes a TILL-RELEASE (R57). -/
def tillRelease (lane : Nat) (s : State) : State × Reply :=
  if (s.session lane).lockout then (setLockout false lane s, .okay) else (s, .refuse .state)

/-- TILL-RELEASE (R57). -/
def execTillRelease (tag : Nat) (lane : Option Nat) (s : State) : Out :=
  .next (hostRequest tag (withBody lane fun l => withLane l tillRelease) s)

/-- The TSU takes a TILL-CLEAR (R58). -/
def tillClear (mem : MemFaults) (lane : Nat) (s : State) : State × Reply :=
  if (s.basket lane).isOpen then
    match appendAbandon mem .hostClear lane s with
    | (s, true) => (closeBasket lane s, .okay)
    | (s, false) => (s, .refuse .full)
  else (s, .refuse .state)

/-- TILL-CLEAR (R58). -/
def execTillClear (tag : Nat) (lane : Option Nat) (mem : MemFaults) (s : State) : Out :=
  .next (hostRequest tag (withBody lane fun l => withLane l (tillClear mem)) s)

/-- Has a LOST lane's reconnect window expired (R47)? -/
def Session.windowOver (elapsed window : Nat) (x : Session) : Bool := x.state == .lost && decide (x.lostAt + window ≤ elapsed)

/-- A lane's reconnect window expires: an open basket is abandoned or marked due, and the session enters ABSENT (R47, R56). -/
def expireWindow (mem : MemFaults) (lane : Nat) (s : State) : State :=
  let s := if (s.basket lane).isOpen then
      match appendAbandon mem .reconnectExpired lane s with
      | (s, true) => closeBasket lane s
      | (s, false) => markAbandonDue .reconnectExpired lane s
    else s
  s.setSession lane (s.session lane).gone

/-- A lane's window, judged (R47). -/
def judgeWindow (mem : MemFaults) (lane : Nat) (s : State) : State :=
  if (s.session lane).windowOver s.elapsed s.tsu.window then expireWindow mem lane s else s

/-- The TSU takes a TILL-PARAMS: a shorter window expires at once the lanes it has run out for (R47, R60). The order
among lanes is DESIGN CHOICE, log 49. -/
def tillParams (mem : MemFaults) (a : TillParamsArgs) (s : State) : State × Reply :=
  let s := { s with tsu := { s.tsu with pollPeriod := clamp 1 10 a.poll, window := clamp 30 600 a.window } }
  (lanes.foldl (fun s l => judgeWindow mem l s) s,
   .okClamped (decide (clamp 1 10 a.poll ≠ a.poll) || decide (clamp 30 600 a.window ≠ a.window)))

/-- TILL-PARAMS (R60). -/
def execTillParams (tag : Nat) (args : Option TillParamsArgs) (mem : MemFaults) (s : State) : Out :=
  .next (hostRequest tag (withBody args (tillParams mem)) s)

/-- Missed polls after a poll time: one more where a POLL went before and no STATUS has come since (R46, step 1). -/
def Session.missedAt (x : Session) : Nat := if x.polled && !x.heard then x.missed + 1 else x.missed

/-- The messages of a POLL (R46, step 3; R48). -/
def pollMessages (lane : Nat) (x : Session) : List LaneMessage :=
  LaneMessage.poll lane x.state :: if x.seenOwed then [.seen lane] else []

/-- A lane's poll time (R46). -/
def takePoll (lane : Nat) (s : State) : State :=
  let x := s.session lane
  let y := { x with missed := x.missedAt }
  if 3 ≤ y.missed then enterLost lane .polls (s.setSession lane y)
  else
    let s := s.setSession lane { y with
      polled := true, heard := false, seenOwed := false, nextPoll := some (s.elapsed + s.tsu.pollPeriod) }
    match x.station with
    | some st => sendLane st (pollMessages lane x) s
    | none => s

/-- A poll time where it has come for a present lane (R46). -/
def pollIfDue (lane : Nat) (s : State) : State :=
  if laneOk lane && (s.session lane).state.isPresent && s.due (s.session lane).nextPoll then takePoll lane s else s

/-- POLL_TIME (R46). -/
def execPollTime (lane : Nat) (s : State) : Out := .next (whileRunning (pollIfDue lane) s)

/-- RECONNECT_EXPIRY (R47). -/
def execReconnectExpiry (lane : Nat) (mem : MemFaults) (s : State) : Out :=
  .next (whileRunning (fun s => if laneOk lane then judgeWindow mem lane s else s) s)

/-- An abandon retry: accepted, the basket closes; refused, the next comes one poll period later (R56). -/
def retryAbandon (mem : MemFaults) (lane : Nat) (s : State) : State :=
  let cause := (s.basket lane).dueCause.getD .restart
  match appendAbandon mem cause lane s with
  | (s, true) => closeBasket lane s
  | (s, false) => markAbandonDue cause lane s

/-- Is an abandon retry due (R56)? -/
def retryDue (lane : Nat) (s : State) : Bool := (s.basket lane).isOpen && (s.basket lane).abandonDue && s.due (s.basket lane).retryAt

/-- ABANDON_RETRY (R56). -/
def execAbandonRetry (lane : Nat) (mem : MemFaults) (s : State) : Out :=
  .next (whileRunning (fun s => if laneOk lane && retryDue lane s then retryAbandon mem lane s else s) s)

end Sys2Proof.Machine
end

