-- ==== Sys2Proof/Machine/Lanes.lean ====
section
/-! DEFINITION. The lane protocol: what each till message does, R41 to R55. -/

namespace Sys2Proof.Machine

/-- The malformed-message count rises (R42). -/
def countMalformed (s : State) : State := { s with tsu := { s.tsu with malformed := bump max16 s.tsu.malformed } }

/-- A lane's foreign-message count rises (R42). -/
def countForeign (lane : Nat) (s : State) : State :=
  s.setSession lane { s.session lane with foreign := bump max16 (s.session lane).foreign }

/-- A lane frame is taken while the part runs and tills are served, and its lane is one of the 64 (R42). -/
def laneFrame (lane : Nat) (f : State → State) (s : State) : State :=
  whileRunning (fun s => if s.tsu.serving then (if laneOk lane then f s else countMalformed s) else s) s

/-! ### JOIN (R45) -/

/-- The session of an admitted till, before it settles (R45). DESIGN CHOICE, logs 29 and 50. -/
def Session.joined (src : HwAddr) (t : Text) (nextPoll : Nat) (x : Session) : Session :=
  { x with
    state := .ready, station := some src, tillId := some t, missed := 0, service := false, seenOwed := false, last := none
    lostSince := none, lostReason := none, nextPoll := some nextPoll, polled := false, heard := false }

/-- A till is admitted, its open basket restored, and answered WELCOME (R45). -/
def admitTill (src : HwAddr) (lane : Nat) (t : Text) (s : State) : State :=
  let s := s.setSession lane ((s.session lane).joined src t (s.elapsed + s.tsu.pollPeriod))
  let s := settle lane (s.setBasket lane (s.basket lane).restored)
  sendLane src [.welcome lane (s.session lane).state s.tsu.pollPeriod (s.basket lane).summary] s

/-- A JOIN refused with ROSTER and a fault (R45). -/
def refuseJoin (src : HwAddr) (lane code : Nat) (d : FaultDetail) (s : State) : State :=
  (sendLane src [.refuse lane none .roster] s).logFault .till code d

/-- The TSU takes a JOIN (R42, R45). DEDUCED, log 46. -/
def joinLane (src : HwAddr) (lane : Nat) (t : Text) (s : State) : State :=
  let x := s.session lane
  if x.state.isPresent && x.station != some src then refuseJoin src lane 101 (.secondStation lane t src) s
  else if x.state.isPresent && !tillIdOk t then sendLane src [.refuse lane none .badMessage] s
  else if (s.roster lane).admits t then admitTill src lane t s
  else refuseJoin src lane 102 (.notAdmitted lane t) s

/-- A JOIN frame. -/
def joinFrame (src : HwAddr) (lane : Nat) (tillId : Text) : State → State := laneFrame lane (joinLane src lane tillId)

/-- JOIN (R45). -/
def execLaneJoin (src : HwAddr) (lane : Nat) (tillId : Text) (s : State) : Out := .next (joinFrame src lane tillId s)

/-! ### STATUS (R46, R48) -/

/-- The TILL-SERVICE report of a STATUS (R48). -/
def serviceReport (lane : Nat) (x : Session) (i : Indications) : ReportBody :=
  .tillService lane x.tillId i.drawerOpen i.printerLow i.basketOpen

/-- A STATUS from the joined station (R46, R48). -/
def recordStatus (lane : Nat) (i : Indications) (s : State) : State :=
  let x := s.session lane
  let s := s.setSession lane { x with missed := 0, lastStatus := some i, heard := true, service := x.service || i.service }
  if i.service && !x.service then s.report (serviceReport lane x i) else s

/-- The TSU takes a STATUS (R42, R46). -/
def statusLane (src : HwAddr) (lane : Nat) (i : Indications) (s : State) : State :=
  let x := s.session lane
  if x.state.isPresent then (if x.station = some src then recordStatus lane i s else countForeign lane s) else s

/-- A STATUS frame. -/
def statusFrame (src : HwAddr) (lane : Nat) (ind : Indications) : State → State := laneFrame lane (statusLane src lane ind)

/-- STATUS (R46). -/
def execLaneStatus (src : HwAddr) (lane : Nat) (ind : Indications) (s : State) : Out := .next (statusFrame src lane ind s)

/-! ### Numbered messages (R42, R43) -/

/-- A session keeps the number of the message it took and its reply (R43). -/
def keepReply (lane msg : Nat) (r : LaneMessage) (s : State) : State :=
  s.setSession lane { s.session lane with last := some ⟨msg, r⟩ }

/-- The kept reply, where the number is the kept one (R43). -/
def Session.repeated (msg : Nat) (x : Session) : Option LaneMessage :=
  match x.last with | some l => if l.number = msg then some l.reply else none | none => none

/-- A new message is taken: its effect, its reply sent, and number and reply kept (R43). -/
def takeNew (src : HwAddr) (lane msg : Nat) (f : State → State × LaneMessage) (s : State) : State :=
  sendLane src [(f s).2] (keepReply lane msg (f s).2 (f s).1)

/-- OPEN, ASK, VOID, CLOSE or CANCEL is taken by R42 and R43: REFUSE STATE for a lane that is not present, discarded from a
foreign station, repeated, refused BAD_MESSAGE where a field is out of range (which is not kept, log 18), or taken as new. That BAD_MESSAGE
comes before LOCKED, STATE and HOLD_NEW is DESIGN CHOICE, log 73. -/
def numbered (src : HwAddr) (lane msg : Nat) (inRange : Bool) (f : State → State × LaneMessage) (s : State) : State :=
  let x := s.session lane
  if x.state.isPresent = false then sendLane src [.refuse lane (some msg) .state] s
  else if x.station ≠ some src then countForeign lane s
  else match x.repeated msg with
    | some r => sendLane src [r] s
    | none => if messageOk msg && inRange then takeNew src lane msg f s else sendLane src [.refuse lane (some msg) .badMessage] s

/-- A basket message in LOCKED_OUT, or with no basket open, is refused (R51, R53 to R55). -/
def onBasket (lane msg : Nat) (f : Basket → State → State × LaneMessage) (s : State) : State × LaneMessage :=
  if (s.session lane).state = .lockedOut then (s, .refuse lane (some msg) .locked)
  else if (s.basket lane).isOpen then f (s.basket lane) s
  else (s, .refuse lane (some msg) .state)

/-! ### OPEN (R50) -/

/-- A basket opened (R50). -/
def Basket.opened (epoch now : Nat) (b : Basket) : Basket := ⟨true, next32 b.sequence, epoch, now, false, false, [], none, none⟩

/-- An ANSWER with line number 0, as OPEN and CANCEL are answered (R50, R55). -/
def lineZero (lane msg sequence : Nat) : LaneMessage := .answer lane msg 0 0 none false false 0 sequence

/-- The TSU takes an OPEN (R50). -/
def openLane (lane msg : Nat) (s : State) : State × LaneMessage :=
  match (s.session lane).state with
  | .ready =>
    let b := (s.basket lane).opened s.itb.epoch s.now
    (settle lane (s.setBasket lane b), lineZero lane msg b.sequence)
  | .held => (s, .refuse lane (some msg) (if (s.basket lane).isOpen then .state else .holdNew))
  | .lockedOut => (s, .refuse lane (some msg) .locked)
  | _ => (s, .refuse lane (some msg) .state)

/-- An OPEN frame. -/
def openFrame (src : HwAddr) (lane msg : Nat) : State → State := laneFrame lane (numbered src lane msg true (openLane lane msg))

/-- OPEN (R50). -/
def execLaneOpen (src : HwAddr) (lane msg : Nat) (s : State) : Out := .next (openFrame src lane msg s)

/-! ### ASK (R51, R52) -/

/-- The line a line answer makes (R52). -/
def lineOf (number code quantity band : Nat) (a : LineAnswer) : Line :=
  ⟨number, code, quantity, a.amount, a.used, a.version, a.terms, band, a.labelLag, false⟩

/-- A line appended, and its ANSWER (R52). -/
def makeLine (lane msg code quantity band : Nat) (a : LineAnswer) (b : Basket) (s : State) : State × LaneMessage :=
  let l := lineOf (b.lines.length + 1) code quantity band a
  (s.setBasket lane { b with lines := b.lines ++ [l] },
   .answer lane msg l.number l.amount (some l.used) l.labelLag false (runningTotal (b.lines ++ [l])) b.sequence)

/-- The PCU's answer to an ASK, made a line or refused; 200 lines are the most (R51, orders 6 to 8). -/
def priceLine (lane msg code quantity band : Nat) (answer : Except TillRefusal LineAnswer) (b : Basket) (s : State) : State × LaneMessage :=
  if 200 ≤ b.lines.length then (s, .refuse lane (some msg) .basketFull)
  else match answer with
    | .ok a => makeLine lane msg code quantity band a b s
    | .error e => (s, .refuse lane (some msg) e)

/-- An ASK for a code that no record has (R51, orders 3 and 4). -/
def askUnknown (lane msg code quantity : Nat) (keyed : Option Nat) (b : Basket) (s : State) : State × LaneMessage :=
  match (s.roster lane).policy, keyed with
  | .refuse, _ => (s, .refuse lane (some msg) .unknownItem)
  | .openPrice, none => (s, .refuse lane (some msg) .priceRequired)
  | .openPrice, some p =>
    priceLine lane msg code quantity (s.roster lane).band (computeOpenLine p quantity (runningTotal b.lines)) b s

/-- An ASK for a code that has a record, as read (R51, order 5). -/
def askKnown (lane msg quantity : Nat) (r : ItemRecord) (b : Basket) (s : State) : State × LaneMessage :=
  match r.current with
  | some c =>
    if r.blocked || r.damaged then (s, .refuse lane (some msg) .notForSale)
    else priceLine lane msg r.code quantity r.band (computeLine c r.version r.previous quantity (runningTotal b.lines)) b s
  | none => (s, .refuse lane (some msg) .notForSale)

/-- The one reading of an ASK's item record, at order 3, with its check (R22, R51). -/
def askRead (mem : MemFaults) (code : Nat) (s : State) : State := if codeOk code then checkItem mem code s else s

/-- The record an ASK's code has; none for a code out of range (R51). -/
def askItem (code : Nat) (s : State) : Option ItemRecord := if codeOk code then s.item code else none

/-- An ASK with a basket open (R51). -/
def askLine (mem : MemFaults) (lane msg code quantity : Nat) (keyed : Option Nat) (b : Basket) (s : State) : State × LaneMessage :=
  match askItem code (askRead mem code s) with
  | some r => askKnown lane msg quantity r b (askRead mem code s)
  | none => askUnknown lane msg code quantity keyed b (askRead mem code s)

/-- An ASK frame. -/
def askFrame (src : HwAddr) (lane msg code quantity : Nat) (keyed : Option Nat) (mem : MemFaults) : State → State :=
  laneFrame lane (numbered src lane msg true (onBasket lane msg (askLine mem lane msg code quantity keyed)))

/-- ASK (R51). -/
def execLaneAsk (src : HwAddr) (lane msg code quantity : Nat) (keyed : Option Nat) (mem : MemFaults) (s : State) : Out :=
  .next (askFrame src lane msg code quantity keyed mem s)

/-! ### VOID (R53) -/

/-- The lines with line `n` voided. -/
def voidAt (n : Nat) (ls : List Line) : List Line := ls.map fun l => if l.number = n then { l with voided := true } else l

/-- A VOID with a basket open (R53). -/
def voidLine (lane msg line : Nat) (b : Basket) (s : State) : State × LaneMessage :=
  match b.lines.find? (fun l => l.number == line) with
  | none => (s, .refuse lane (some msg) .badLine)
  | some l =>
    (s.setBasket lane { b with lines := voidAt line b.lines },
     .answer lane msg line l.amount (some l.used) l.labelLag true (runningTotal (voidAt line b.lines)) b.sequence)

/-- A VOID frame. -/
def voidFrame (src : HwAddr) (lane msg line : Nat) : State → State :=
  laneFrame lane (numbered src lane msg true (onBasket lane msg (voidLine lane msg line)))

/-- VOID (R53). -/
def execLaneVoid (src : HwAddr) (lane msg line : Nat) (s : State) : Out := .next (voidFrame src lane msg line s)

/-! ### CLOSE and CANCEL (R54, R55) -/

/-- A CLOSE with a basket open and a known tender (R54). -/
def closeLane (mem : MemFaults) (lane msg : Nat) (tender : Tender) (b : Basket) (s : State) : State × LaneMessage :=
  match journalAppend mem (saleRecord lane tender s) s with
  | (s', some seq) =>
    (closeBasket lane s', .total lane msg (basketTotal b.lines) (bandTaxes s.itb.rates b.lines) seq b.sequence)
  | (s', none) => (s', .refuse lane (some msg) .journalFull)

/-- A CLOSE frame. -/
def closeFrame (src : HwAddr) (lane msg tender : Nat) (mem : MemFaults) : State → State :=
  laneFrame lane (numbered src lane msg (tenderOf tender).isSome
    (onBasket lane msg (closeLane mem lane msg ((tenderOf tender).getD .other))))

/-- CLOSE (R54). -/
def execLaneClose (src : HwAddr) (lane msg tender : Nat) (mem : MemFaults) (s : State) : Out :=
  .next (closeFrame src lane msg tender mem s)

/-- A CANCEL with a basket open (R55). -/
def cancelLane (mem : MemFaults) (lane msg : Nat) (b : Basket) (s : State) : State × LaneMessage :=
  match journalAppend mem (.void (basketHeader lane (s.session lane).tillId s) b.lines) s with
  | (s', some _) => (closeBasket lane s', lineZero lane msg b.sequence)
  | (s', none) => (s', .refuse lane (some msg) .journalFull)

/-- A CANCEL frame. -/
def cancelFrame (src : HwAddr) (lane msg : Nat) (mem : MemFaults) : State → State :=
  laneFrame lane (numbered src lane msg true (onBasket lane msg (cancelLane mem lane msg)))

/-- CANCEL (R55). -/
def execLaneCancel (src : HwAddr) (lane msg : Nat) (mem : MemFaults) (s : State) : Out := .next (cancelFrame src lane msg mem s)

/-- A lane frame that cannot be decoded, of an unknown kind, or for no lane; before tills are served it is discarded uncounted like
any other (R42). -/
def malformedFrame : State → State := whileRunning fun s => if s.tsu.serving then countMalformed s else s

/-- LANE_MESSAGE_MALFORMED (R42). -/
def execLaneMessageMalformed (s : State) : Out := .next (malformedFrame s)

end Sys2Proof.Machine
end

