-- ==== Sys2Proof/Machine/Radio.lean ====
section
/-! DEFINITION. The radio frame: its beginning, a failed hand-over, the answers, and its end, R82, R83, R88 to R95. -/

namespace Sys2Proof.Machine

/-! ### Composition and grant (R88, R89) -/

/-- The figures, description and version of an update, from the item record as read: empty for an unbound label, and for a record
that is DAMAGED or has no current (R89). -/
def composeItem (item : Option ItemRecord) : Option LabelFigures × Option Text × Option Nat :=
  match item with
  | none => (none, none, none)
  | some r => match r.current with
    | some c => if r.damaged then (none, none, some r.version) else (some (labelFigures c), some r.desc, some r.version)
    | none => (none, none, some r.version)

/-- The update composed for a label (R89). -/
def compose (e : LabelEntry) (item : Option ItemRecord) (t : TemplateStore) : Update :=
  let (figures, desc, version) := composeItem item
  ⟨e.addr, figures, desc, t.resolve e.template e.addr.rail, ⟨version, (t.slot e.template).revision, t.stamp e.addr.rail⟩⟩

/-- The one reading of a label's item record (R22, R89). -/
def readBound (mem : MemFaults) (e : LabelEntry) (s : State) : State := match e.item with | some c => checkItem mem c s | none => s

/-- The update composed for a label on the whole part, after its item is read. -/
def composeOn (e : LabelEntry) (s : State) : Update := compose e (e.item.bind fun c => s.item c) s.tps

/-- One slot granted: the entry leaves the queue, the label enters SENT with its owed reason kept, last send becomes the tag and the
wake of the window (R88, R89). -/
def grantOne (mem : MemFaults) (frame : Nat) (q : QueueEntry) (s : State) : State × List Grant :=
  match s.lrc.entry q.addr, windowWake (s.lrc.rail q.addr.rail).code q.addr.rail frame with
  | some e, some w =>
    let s := readBound mem e s
    let u := composeOn e s
    (s.onLrc fun l => (l.put { e with state := .sent, lastSend := some ⟨u.tag, w⟩ }).leave e.addr,
     [⟨e.addr, u, q, e.state, e.lastSend⟩])
  | _, _ => (s, [])

/-- The slots of a frame granted in order (R88). -/
def grantAll (mem : MemFaults) (frame : Nat) : List QueueEntry → State → State × List Grant
  | [], s => (s, [])
  | q :: qs, s =>
    let (s, g) := grantOne mem frame q s
    let (s, gs) := grantAll mem frame qs s
    (s, g ++ gs)

/-- The frame handed to the transceiver (R82, step 3). -/
def handOver (number : Nat) (rail : Option Nat) (gs : List Grant) (s : State) : State :=
  let s := s.onLrc fun l => { l with frame := some ⟨number, rail, gs, false, false⟩, frameDue := false }
  { s with out := { s.out with radio := some ⟨number, rail, gs.map (·.update)⟩ } }

/-- A radio frame begins (R82, steps 1 to 3). -/
def beginFrame (mem : MemFaults) (s : State) : State :=
  let poll := s.lrc.choosePoll s.now
  let (s', gs) := grantAll mem s.now (s.lrc.granted s.now poll) s
  handOver s.now poll gs s'

/-- RADIO_FRAME: the frame of the present branch second, where it has not begun and no frame is in flight (R82). DESIGN CHOICE, log 30. -/
def execRadioFrame (mem : MemFaults) (s : State) : Out :=
  .next (whileRunning (fun s => if s.lrc.frameDue && s.lrc.frame.isNone then beginFrame mem s else s) s)

/-! ### A failed hand-over (R83) -/

/-- A grant undone: state, owed reason, last send and queue place as before, the owed reason raised by any requeue (R83). -/
def LabelRadio.undo (g : Grant) (l : LabelRadio) : LabelRadio :=
  match l.entry g.addr with
  | none => l
  | some e =>
    if e.state = .sent then
      let owed := raiseOpt e.owed e.requeue
      let l := l.put { e with state := g.oldState, owed := owed, requeue := none, lastSend := g.oldSend }
      { l with queue := restoreEntry { g.entry with reason := owed.getD g.entry.reason } l.queue }
    else l

/-- The radio port state that a failure sets (R83). -/
def HandoverFailure.port : HandoverFailure → RadioPort
  | .noAnswer => .noAnswer
  | .rejected _ => .rejecting

/-- The fault a failure logs: 201 or 202 (R83). -/
def handoverFault (frame : Nat) : HandoverFailure → Nat × FaultDetail
  | .noAnswer => (201, .radioSilent frame)
  | .rejected code => (202, .radioRejected frame code)

/-- The hand-over of a frame has failed: grants undone, and the fault logged once per change of the port state (R83). -/
def failHandover (x : HandoverFailure) (f : FrameInFlight) (s : State) : State :=
  let logs := decide (s.lrc.port ≠ HandoverFailure.port x)
  let s := s.onLrc fun l => { f.grants.foldl (fun l g => l.undo g) l with frame := none, port := HandoverFailure.port x }
  if logs then s.logFault .label (handoverFault f.number x).1 (handoverFault f.number x).2 else s

/-- The hand-over of the frame in flight fails, where it has not been accepted. -/
def handoverFails (x : HandoverFailure) (s : State) : State :=
  match s.lrc.frame with
  | some f => if f.accepted then s else failHandover x f s
  | none => s

/-- RADIO_HANDOVER_FAIL (R83). -/
def execRadioHandoverFail (failure : HandoverFailure) (s : State) : Out := .next (whileRunning (handoverFails failure) s)

/-- An answer shows that the frame was accepted: the port state is OK (R83; that acceptance is told by the first answer is log 19). -/
def LabelRadio.accept (polled : Bool) (f : FrameInFlight) (l : LabelRadio) : LabelRadio :=
  { l with frame := some { f with accepted := true, polled := f.polled || polled }, port := .ok }

/-! ### Acknowledgements (R90, R91, R93) -/

/-- An entry after the first two steps of a matching acknowledgement (R90). -/
def LabelEntry.acked (a : AckAnswer) (now : Nat) (e : LabelEntry) : LabelEntry :=
  { e with
    confirmed := a.tag.version, revision := some a.tag.revision, stamp := some a.tag.stamp
    retries := 0, missed := 0, lastHeard := some now, battery := some a.battery }

/-- The present version of the item a label is bound to. -/
def boundVersion (e : LabelEntry) (s : State) : Option Nat := (e.item.bind fun c => s.item c).map (·.version)

/-- EXCLUDED cleared where the version confirmed is the item's present one (R90, step 3). -/
def LabelEntry.confirm (present : Option Nat) (e : LabelEntry) : LabelEntry :=
  { e with excluded := if e.confirmed.isSome && e.confirmed == present then false else e.excluded }

/-- The acknowledgement notice, for a bound label with a version (R10, R90). -/
def sendAckNotice (e : LabelEntry) (s : State) : State :=
  match e.item, e.confirmed with
  | some c, some v => ackNotice c e.addr v s
  | _, _ => s

/-- Is the battery to be reported (R93)? -/
def LabelEntry.lowBattery (level : Nat) (e : LabelEntry) : Bool := decide (level ≤ 2) && !e.lowReported

/-- The battery judged (R93): the flag after a level. -/
def LabelEntry.judgeBattery (level : Nat) (e : LabelEntry) : LabelEntry :=
  { e with lowReported := if level ≤ 2 then true else if 4 < level then false else e.lowReported }

/-- Is the content a label last acknowledged current (R80)? -/
def isCurrent (e : LabelEntry) (s : State) : Bool :=
  (match e.item with | some _ => e.confirmed.isSome && e.confirmed == boundVersion e s | none => e.confirmed.isNone)
    && e.revision == some (s.tps.slot e.template).revision && e.stamp == some (s.tps.stamp e.addr.rail)

/-- The reason of a label whose content is not current (R90, step 5). -/
def staleReason (e : LabelEntry) (s : State) : Reason :=
  if e.item.isSome && e.confirmed != boundVersion e s then .price else .template

/-- Where a label goes after a matching acknowledgement (R90, step 5). -/
def afterAck (e : LabelEntry) (s : State) : State :=
  match e.requeue with
  | some r => s.onLrc (·.enqueue s.now { e with requeue := none } r .first)
  | none =>
    if isCurrent e s then s.onLrc (·.put { e with state := .idle, owed := none })
    else s.onLrc (·.enqueue s.now e (staleReason e s) .first)

/-- A matching acknowledgement (R90). A battery level above 15 is taken as it is. DESIGN CHOICE, log 56. -/
def takeAck (e : LabelEntry) (a : AckAnswer) (s : State) : State :=
  let e' := (e.acked a s.now).confirm (boundVersion e s)
  let s := sendAckNotice e' s
  let s := if e.lowBattery a.battery then s.report (.labelBattery e.addr e.item a.battery) else s
  afterAck (e'.judgeBattery a.battery) s

/-- Does an answer match a label (R90)? -/
def LabelEntry.matches (a : AckAnswer) (e : LabelEntry) : Bool :=
  e.state == .sent && match e.lastSend with | some l => l.tag == a.tag | none => false

/-- The entry that an answer in a slot of the frame matches, if any (R90, R91). -/
def ackTarget (f : FrameInFlight) (slot : Nat) (a : AckAnswer) (l : LabelRadio) : Option LabelEntry :=
  match f.grants[slot]? with
  | some g => match l.entry g.addr with
    | some e => if e.matches a then some e else none
    | none => none
  | none => none

/-- What a slot's answer window held is taken (R90, R91). -/
def slotAnswer (slot : Nat) (answer : Option AckAnswer) (s : State) : State :=
  match s.lrc.frame with
  | none => s.onLrc (·.staleAnswer)
  | some f =>
    let s := s.onLrc (·.accept false f)
    match answer with
    | none => s.onLrc (·.staleAnswer)
    | some a => match ackTarget f slot a s.lrc with
      | some e => takeAck e a s
      | none => s.onLrc (·.staleAnswer)

/-- LABEL_ACK (R90). -/
def execLabelAck (slot : Nat) (answer : Option AckAnswer) (s : State) : Out := .next (whileRunning (slotAnswer slot answer) s)

/-! ### The rail poll (R95) -/

/-- A label whose slot answered the poll (R95). -/
def pollAnswered (e : LabelEntry) (s : State) : State :=
  match e.state with
  | .missing =>
    let e := { e with missed := 0, retries := 0, lastHeard := some s.now }
    match e.owed with
    | some r => s.onLrc (·.enqueue s.now e r .first)
    | none => s.onLrc (·.put { e with state := .idle })
  | .sent => s
  | _ => s.onLrc (·.put { e with missed := 0, lastHeard := some s.now })

/-- A label whose slot did not answer (R95). -/
def pollMissed (e : LabelEntry) (s : State) : State :=
  match e.state with
  | .missing => s
  | .sent => s
  | _ =>
    let e := { e with missed := e.missed + 1 }
    if 3 ≤ e.missed then enterMissing .polls e s else s.onLrc (·.put e)

/-- The entry at a directory key judged by the bitmap (R95). -/
def judgePoll (bitmap : BitVec 24) (key : Nat) (s : State) : State :=
  match findKey LabelEntry.key key s.lrc.directory with
  | none => s
  | some e => if bitmap.getLsbD e.addr.slot then pollAnswered e s else pollMissed e s

/-- The bitmap of an accepted poll, and each entry of its rail judged by it (R95). Ascending address order is DESIGN CHOICE, log 64. -/
def takeBitmap (rail frame : Nat) (bitmap : BitVec 24) (s : State) : State :=
  let s := s.onLrc fun l => { l with rails := tset l.rails rail { l.rail rail with lastPoll := some frame, bitmap := bitmap } }
  ((s.lrc.directory.filter fun e => e.addr.rail == rail).map (·.key)).foldl (fun s k => judgePoll bitmap k s) s

/-- The rail-poll answer positions are taken, once in a frame that polls a rail (R82, R95). -/
def pollAnswer (bitmap : BitVec 24) (s : State) : State :=
  match s.lrc.frame with
  | none => s
  | some f => match f.rail with
    | none => s
    | some r => if f.polled then s else takeBitmap r f.number bitmap (s.onLrc (·.accept true f))

/-- RAIL_POLL_ANSWER (R95). -/
def execRailPollAnswer (bitmap : BitVec 24) (s : State) : Out := .next (whileRunning (pollAnswer bitmap) s)

/-! ### The end of the frame (R92) -/

/-- A label still SENT at the end of its frame (R92). -/
def resolveSent (e : LabelEntry) (s : State) : State :=
  let owed := raiseOpt e.owed e.requeue
  match e.lastSend with
  | none => s.onLrc (·.enqueue s.now { e with requeue := none } (owed.getD .bind) .first)
  | some _ =>
    let e := { e with retries := e.retries + 1, owed := owed, requeue := none }
    if s.lrc.retryLimit ≤ e.retries then enterMissing .retries e s
    else s.onLrc (·.enqueue s.now e (owed.getD .bind) .retry)

/-- The entry at a directory key resolved where it is SENT. -/
def resolveKey (key : Nat) (s : State) : State :=
  match findKey LabelEntry.key key s.lrc.directory with
  | none => s
  | some e => if e.state = .sent then resolveSent e s else s

/-- The frame in flight ends: every label still SENT is resolved, in ascending address (R92; the order is log 20). -/
def endFrame (s : State) : State :=
  match s.lrc.frame with
  | none => s
  | some _ =>
    let s := s.onLrc fun l => { l with frame := none, port := .ok }
    (s.lrc.directory.map (·.key)).foldl (fun s k => resolveKey k s) s

/-- RADIO_FRAME_END (R92). -/
def execRadioFrameEnd (s : State) : Out := .next (whileRunning endFrame s)

end Sys2Proof.Machine
end

