-- ==== Sys2Proof/Machine/Routing.lean ====
section
/-! DEFINITION. The routing requests, R127 to R132. -/

namespace Sys2Proof.Machine

/-- A Range Table entry. -/
def Forwarder.range (i : Nat) (z : Forwarder) : RangeEntry := tget z.ranges i RangeEntry.cleared

/-- The index of another entry for which `f` holds (R127, checks 4 and 5). -/
def otherHolding (f : RangeEntry → Bool) (i : Nat) (z : Forwarder) : Option Nat :=
  (List.range 32).find? fun j => j != i && f (z.range j)

/-- Would an entry change what fixes the exchange peer, or take its flag (R127, check 6)? -/
def movesPeer (old new : RangeEntry) : Bool :=
  (old.peer && (old.base != new.base || old.mask != new.mask || old.enable != new.enable || old.zone != new.zone || !new.peer))
    || (new.peer && !old.peer)

/-- The exchange session is open. -/
def State.exchangeOpen (s : State) : Bool := s.xce.session.state != .idle

/-- The checks 3 to 6 of R127, in order; none where all pass. -/
def rangeRefusal (i : Nat) (e : RangeEntry) (s : State) : Option Reply :=
  if maskOk e.mask && baseOk e.base e.mask then
    match (if e.claim then otherHolding (·.claim) i s.zfw else none), (if e.peer then otherHolding (·.peer) i s.zfw else none) with
    | some j, _ => some (.refused .claimHeld (.index j))
    | none, some j => some (.refused .claimHeld (.index j))
    | none, none => if s.exchangeOpen && movesPeer (s.zfw.range i) e then some (.refuse .state) else none
  else some (.refuse .badRange)

/-- A Range Table entry written. -/
def setRange (i : Nat) (e : RangeEntry) (s : State) : State := { s with zfw := { s.zfw with ranges := tset s.zfw.ranges i e } }

/-- The ZFW takes a RANGE-SET (R127). -/
def rangeSet (a : RangeArgs) (s : State) : State × Reply :=
  match rangeZoneOf a.zone with
  | none => (s, .refuse .badField)
  | some z =>
    let e : RangeEntry := ⟨a.base, a.mask, a.enable, z, a.peer, a.claim⟩
    if 31 < a.index ∨ (a.peer = true ∧ z ≠ .headoffice) ∨ (a.claim = true ∧ z ≠ .payment) then (s, .refuse .badField)
    else match rangeRefusal a.index e s with
      | some r => (s, r)
      | none => (setRange a.index e s, .ok (.range (s.zfw.range a.index) e) [])

/-- RANGE-SET (R127). -/
def execRangeSet (tag : Nat) (args : Option RangeArgs) (s : State) : Out := .next (hostRequest tag (withBody args rangeSet) s)

/-- The ZFW takes a RANGE-CLEAR (R128). -/
def rangeClear (i : Nat) (s : State) : State × Reply :=
  if 31 < i then (s, .refuse .badField)
  else if (s.zfw.range i).peer && s.exchangeOpen then (s, .refuse .state)
  else (setRange i .cleared s, .ok (.range (s.zfw.range i) .cleared) [])

/-- RANGE-CLEAR (R128). -/
def execRangeClear (tag : Nat) (index : Option Nat) (s : State) : Out := .next (hostRequest tag (withBody index rangeClear) s)

/-- May PAYMENT_ONLY stand in a cell (R122)? -/
def paymentCell (src dst : Zone) : Bool := (src == .till && dst == .payment) || (src == .payment && dst == .till)

/-- The ZFW takes a POLICY-SET (R129). -/
def policySet (a : PolicyArgs) (s : State) : State × Reply :=
  match zoneOf a.src, zoneOf a.dst, policyValueOf a.value with
  | some src, some dst, some v =>
    if fixedCell src dst || (v == .paymentOnly && !paymentCell src dst) then (s, .refuse .badField)
    else ({ s with zfw := { s.zfw with policy := tset s.zfw.policy (7 * src.index + dst.index) v } },
          .ok (.policy (s.zfw.cell src dst) v) [])
  | _, _, _ => (s, .refuse .badField)

/-- POLICY-SET (R129). -/
def execPolicySet (tag : Nat) (args : Option PolicyArgs) (s : State) : Out := .next (hostRequest tag (withBody args policySet) s)

/-- A Kind Table entry as given, or why it is refused (R130). BAD_FIELD before BAD_RANGE is DESIGN CHOICE, log 68. -/
def kindEntryOf (k : Option RawKind) : Except RefuseReason (Option KindEntry) :=
  match k with
  | none => .ok none
  | some k => match trafficKindOf k.kind with
    | none => .error .badField
    | some t =>
      if 65535 < k.low ∨ 65535 < k.high then .error .badField
      else if k.high < k.low then .error .badRange
      else .ok (some ⟨k.low, k.high, t⟩)

/-- The ZFW takes a KIND-SET (R130). -/
def kindSet (a : KindArgs) (s : State) : State × Reply :=
  if 7 < a.index then (s, .refuse .badField)
  else match kindEntryOf a.entry with
    | .error e => (s, .refuse e)
    | .ok k => ({ s with zfw := { s.zfw with kinds := tset s.zfw.kinds a.index k } }, .ok (.kind (tget s.zfw.kinds a.index none) k) [])

/-- KIND-SET (R130). -/
def execKindSet (tag : Nat) (args : Option KindArgs) (s : State) : Out := .next (hostRequest tag (withBody args kindSet) s)

/-- The row a HINT-SET gives, where each class is known (R131). -/
def hintRowOf (a : HintArgs) : Option HintRow :=
  match hintClassOf a.payment, hintClassOf a.interactive, hintClassOf a.bulk, hintClassOf a.control with
  | some p, some i, some b, some c => some ⟨p, i, b, c⟩
  | _, _, _, _ => none

/-- The index of the row a HINT-SET names; its zones are numbered as in R122 (log 22). -/
def hintIndexOf (a : HintArgs) : Option Nat :=
  match zoneOf a.src, zoneOf a.dst with
  | some src, some dst => hintRow src dst
  | _, _ => none

/-- The ZFW takes a HINT-SET (R131). -/
def hintSet (a : HintArgs) (s : State) : State × Reply :=
  match hintIndexOf a, hintRowOf a with
  | some i, some h =>
    ({ s with zfw := { s.zfw with hints := tset s.zfw.hints i h } }, .ok (.hint (tget s.zfw.hints i HintRow.cold) h) [])
  | _, _ => (s, .refuse .badField)

/-- HINT-SET (R131). -/
def execHintSet (tag : Nat) (args : Option HintArgs) (s : State) : Out := .next (hostRequest tag (withBody args hintSet) s)

/-- Do portal address and guest block stand together (R132)? -/
def portalOk (p : Portal) (z : Forwarder) : Bool :=
  maskOk p.mask && baseOk p.base p.mask && !blockHolds p p.addr && z.rangeZone p.addr == .store

/-- The ZFW takes a PORTAL-SET (R132). That each session keeps its guest address (R135) is DESIGN CHOICE, log 72. -/
def portalSet (p : Option Portal) (s : State) : State × Reply :=
  if p.all (portalOk · s.zfw) then ({ s with gat := { s.gat with portal := p } }, .ok (.portal s.gat.portal p) [])
  else (s, .refuse .badRange)

/-- PORTAL-SET (R132). -/
def execPortalSet (tag : Nat) (args : Option (Option Portal)) (s : State) : Out := .next (hostRequest tag (withBody args portalSet) s)

end Sys2Proof.Machine
end

