-- ==== Sys2Proof/Machine/Starts.lean ====
section
/-! DEFINITION. Main power, and the three kinds of start: R188 to R190, and each block's state after a start, R23, R63, R78, R103, R117,
R134, R146, R157, R176. -/

namespace Sys2Proof.Machine

/-! ### Each block after a warm start or reset request -/

/-- R63: sessions, hold and waiting messages are lost; an abandon that was due has no retry until tills are served. -/
def TillService.warm (t : TillService) : TillService :=
  { t with
    sessions := TillService.cold.sessions, baskets := t.baskets.map fun b => { b with retryAt := none }
    hold := false, malformed := 0, outbox := [], serving := false }

/-- R78. -/
def Journal.warm (j : Journal) : Journal := { j with limit := none, highArmed := true, fullArmed := true, fullRefusals := 0 }

/-- A directory entry after a warm start: SENT to QUEUED, requeue folded into owed, last send absent (R103). -/
def LabelEntry.warm (e : LabelEntry) : LabelEntry :=
  { e with
    state := if e.state = .sent then .queued else e.state
    owed := raiseOpt e.owed e.requeue, requeue := none, lastSend := none }

/-- Does an entry get a queue entry at a warm start (R103)? -/
def LabelEntry.rejoins (e : LabelEntry) : Bool := e.state == .new || e.state == .queued

/-- R103: the Update Queue is rebuilt in ascending order of address. -/
def LabelRadio.warm (now : Nat) (l : LabelRadio) : LabelRadio :=
  let dir := l.directory.map (·.warm)
  (dir.filter (·.rejoins)).foldl (fun l e => l.join now e.addr (e.owed.getD .bind) .first)
    { l with directory := dir, queue := [], nextSerial := 0, port := .ok, stale := 0, frame := none, frameDue := true }

/-- R117: the open definition is lost without a report; every walk is restarted. DEDUCED, log 47. -/
def TemplateStore.warm (t : TemplateStore) : TemplateStore :=
  let t := t.cancel
  { t with walks := t.walks.map fun w => { w with pos := none, noticed := 0 } }

/-- R134. -/
def Forwarder.warm (z : Forwarder) : Forwarder :=
  { z with lanFifo := [], tillFifo := [], guestFifo := [], counts := .zero, spoofLan := none, spoofWan := none }

/-- R157. -/
def Uplink.warm (u : Uplink) : Uplink := { Uplink.cold with day := u.day, night := u.night }

/-- R176: the session is gone, and a staging batch that was in flight is rolled back by an abort walk. -/
def Exchange.warm (x : Exchange) : Exchange :=
  { x with session := .idle, staging := [], walk := if x.stagingBatch.isSome then some (.abort none) else none }

/-! ### The retained check (R188) -/

/-- The frame of a journal record, which the retained check covers (R64, R188). -/
structure RecordFrame where
  kind     : JournalKind
  seq      : Nat
  pos      : Nat
  pages    : Nat
  time     : Nat
  clockSet : Bool
  damaged  : Bool
  deriving DecidableEq, Repr

/-- The retained state that the check covers, part by part in the order of R188. -/
structure RetainedState where
  itemIndex    : List Nat
  epoch        : Nat
  pendingBatch : Option Nat
  rates        : Vector Nat 8
  lagLimit     : Nat
  baskets      : Vector Basket 64
  roster       : Vector RosterEntry 64
  pollPeriod   : Nat
  window       : Nat
  oldest       : JournalPtr
  mark         : JournalPtr
  append       : JournalPtr
  frames       : List RecordFrame
  directory    : List LabelEntry
  rails        : Vector RailEntry 1024
  retryLimit   : Nat
  presence     : Nat
  slots        : Vector TemplateSlot 64
  overlays     : Vector (Option Overlay) 4
  walks        : List WalkEntry
  ranges       : Vector RangeEntry 32
  policy       : Vector Policy 42
  kinds        : Vector (Option KindEntry) 8
  hints        : Vector HintRow 6
  day          : Profile
  night        : Profile
  blockSize    : Option Nat
  counter      : Nat
  stagingBatch : Option Nat
  cutover      : Cutover
  deriving DecidableEq, Repr

/-- The covered state of the part. -/
def State.retained (s : State) : RetainedState :=
  { itemIndex := s.itb.items.map (·.code), epoch := s.itb.epoch, pendingBatch := s.itb.pendingBatch, rates := s.itb.rates
    lagLimit := s.itb.lagLimit, baskets := s.tsu.baskets, roster := s.tsu.roster, pollPeriod := s.tsu.pollPeriod, window := s.tsu.window
    oldest := s.jnl.oldest, mark := s.jnl.mark, append := s.jnl.append
    frames := s.jnl.records.map fun r => ⟨r.content.kind, r.seq, r.pos, r.pages, r.time, r.clockSet, r.damaged⟩
    directory := s.lrc.directory, rails := s.lrc.rails, retryLimit := s.lrc.retryLimit, presence := s.lrc.presence
    slots := s.tps.slots, overlays := s.tps.overlays, walks := s.tps.walks, ranges := s.zfw.ranges, policy := s.zfw.policy
    kinds := s.zfw.kinds, hints := s.zfw.hints, day := s.uls.day, night := s.uls.night, blockSize := s.xce.blockSize
    counter := s.xce.counter, stagingBatch := s.xce.stagingBatch, cutover := s.xce.cutover }

end Sys2Proof.Machine

namespace Sys2Proof.Config

/-- The octets in which the covered state lies in retained memory. The spec does not lay them out; log 25. -/
opaque retainedOctets : Sys2Proof.Machine.RetainedState → List Octet

end Sys2Proof.Config

namespace Sys2Proof.Machine

/-- The check word in retained memory, where one has been written: with every change to the covered state the MSP makes it the word that
brings the sum to 0, modulo 65,536 (R188). -/
def State.checkWord (s : State) : Option Nat :=
  if s.msp.checkWritten then some (checkFor (wordSum (Config.retainedOctets s.retained))) else none

/-- What an evaluation of the retained check gives (R188). -/
inductive CheckResult
  | passed
  | failed (part : RetainedPart)
  | absent
  deriving DecidableEq, Repr

/-- The retained check evaluated over what the memory gives back: ABSENT where no check word has been written or none is left, PASSED
where sum and word still come to 0, FAILED at the first part that is not what was left there (R188). DESIGN CHOICE, log 25. -/
def evaluateCheck (memory : RetainedMemory) (s : State) : CheckResult :=
  match s.msp.checkWritten, memory with
  | false, _ => .absent
  | true, .lost => .absent
  | true, .damaged p => .failed p
  | true, .kept => .passed

/-! ### The start itself -/

/-- The clock after a cold start (R187). DESIGN CHOICE, log 35. -/
def BranchClock.cold (c : BranchClock) : BranchClock := ⟨0, false, c.elapsed⟩

/-- A failed retained check is logged after STARTED (R189). -/
def logRetained (part : Option RetainedPart) (s : State) : State :=
  match part with
  | some p => s.logFault .memory 501 (.retainedPart p)
  | none => s

/-- A cold start: every block at its cold-start values, STARTED queued (R188, R189). -/
def coldStart (cause : StartCause) (result : RetainedResult) (failing : Option RetainedPart) (s : State) : State :=
  logRetained failing
    { itb := .cold, tsu := .cold, jnl := .cold, lrc := .cold, tps := .cold, zfw := .cold, gat := .cold, uls := .cold, xce := .cold
      msp := MessagePort.started .cold cause result s.msp.clock.cold
      power := .running, out := .none, free := s.free, pending := s.pending }

/-- The blocks after a warm start or a reset request, STARTED queued and nothing resumed yet. -/
def warmBlocks (kind : StartKind) (cause : StartCause) (s : State) : State :=
  { itb := s.itb, tsu := s.tsu.warm, jnl := s.jnl.warm, lrc := s.lrc.warm s.now, tps := s.tps.warm, zfw := s.zfw.warm, gat := .cold
    uls := s.uls.warm, xce := s.xce.warm
    msp := MessagePort.started kind cause .passed s.msp.clock
    power := .running, out := .none, free := s.free, pending := s.pending }

/-- An interrupted session is reported failed (R151, R176). -/
def reportRestart (x : ExchangeSession) (s : State) : State :=
  if x.state = .idle then s
  else s.report (.exchangeFailed x.number x.startTag .restart x.state s.jnl.unuploaded s.jnl.mark)

/-- The cutover record resumed by its state (R176). -/
def resumeCutover (s : State) : State :=
  let c := s.xce.cutover
  match c.state with
  | .none => s
  | .scheduled => scheduleDue s
  | .drain => startCutover c.startTag c.drainLimit s
  | .apply => s
  | .finish => finishCutover s

/-- Must the tills wait for an abort walk or an interrupted APPLY walk (R42, R176)? DEDUCED, log 28. -/
def mustWait (s : State) : Bool := s.xce.stagingBatch.isSome || s.xce.cutover.state == .apply

/-- A warm start or a reset request; the order of the resumed work is log 9 (R63, R78, R176, R189). -/
def warmStart (kind : StartKind) (cause : StartCause) (mem : MemFaults) (s : State) : State :=
  let t := judgeAllLags (reportRestart s.xce.session (judgeHighWater (warmBlocks kind cause s)))
  if mustWait s then resumeCutover t else serveTills mem (resumeCutover t)

/-- A start that evaluates the retained check (R188). -/
def checkedStart (kind : StartKind) (cause : StartCause) (memory : RetainedMemory) (mem : MemFaults) (s : State) : State :=
  match evaluateCheck memory s with
  | .passed => warmStart kind cause mem s
  | .failed p => coldStart cause .failed (some p) s
  | .absent => coldStart cause .absent none s

/-- POWER_ON (R188). DESIGN CHOICE, log 25. -/
def execPowerOn (memory : RetainedMemory) (mem : MemFaults) (s : State) : Out :=
  .next (if s.power = .off then checkedStart .warm .power memory mem s else s)

/-- The start that a RESET asked for (R190). DEDUCED, log 39. -/
def requestedStart (memory : RetainedMemory) (mem : MemFaults) (s : State) : State :=
  match s.power with
  | .resetting .cold => coldStart .resetCold .notChecked none s
  | .resetting .warm => checkedStart .resetWarm .resetWarm memory mem s
  | _ => s

/-- RESET_REQUEST (R190). -/
def execResetRequest (memory : RetainedMemory) (mem : MemFaults) (s : State) : Out := .next (requestedStart memory mem s)

/-! ### Loss of main power -/

/-- The Message Port without power: nothing waits, the check word stays in retained memory, and only the clock runs on (R187 to R189). -/
def MessagePort.unpowered (m : MessagePort) : MessagePort := ⟨[], [], .clear, .clear, .clear, .clear, .clear, 0, m.clock, none, m.checkWritten⟩

/-- Main power is lost: what is volatile goes, and what is retained stays. The session record is kept until the start reports it
(R176), the label directory until the start rebuilds its queue (R103); log 23. -/
def losePower (s : State) : State :=
  { s with
    tsu := s.tsu.warm, jnl := s.jnl.warm, tps := s.tps.warm, zfw := s.zfw.warm, gat := .cold, uls := s.uls.warm
    msp := s.msp.unpowered, power := .off, out := .none }

/-- MAIN_POWER_LOSS (R188). -/
def execMainPowerLoss (s : State) : Out := .next (losePower s)

end Sys2Proof.Machine
end

