-- ==== Sys2Proof/Machine/Templates.lean ====
section
/-! DEFINITION. The template and overlay requests, R106 to R114, the definition's expiry (R109) and the walk list's steps (R111). -/

namespace Sys2Proof.Machine

/-- A definition opened for a slot (R107). -/
def TemplateStore.begin (n now elapsed : Nat) (t : TemplateStore) : TemplateStore :=
  { t.setSlot n { t.slot n with state := .defining } with definition := some ⟨n, [], now, elapsed + 60⟩ }

/-- The note that another definition was cancelled (R107). -/
def cancelNote (d : Option Definition) : List Note := match d with | some d => [.cancelledOther d.slot] | none => []

/-- The TPS takes a TEMPLATE-BEGIN (R107). -/
def templateBegin (n : Nat) (s : State) : State × Reply :=
  if 63 < n then (s, .refuse .badField)
  else if s.tps.walking n then (s, .refuse .busy)
  else ({ s with tps := s.tps.cancel.begin n s.now s.elapsed }, .ok .empty (cancelNote s.tps.definition))

/-- TEMPLATE-BEGIN (R107). -/
def execTemplateBegin (tag : Nat) (slot : Option Nat) (s : State) : Out := .next (hostRequest tag (withBody slot templateBegin) s)

/-- An element appended to the open definition (R108). -/
def Definition.append (e : Element) (now elapsed : Nat) (d : Definition) : Definition :=
  { d with elements := d.elements ++ [e], lastAccepted := now, deadline := elapsed + 60 }

/-- The TPS takes a TEMPLATE-ELEMENT (R108). The order of its refusals is DESIGN CHOICE, log 57. -/
def templateElement (a : RawElement) (s : State) : State × Reply :=
  match s.tps.definition with
  | none => (s, .refuse .state)
  | some d => match elementOf a with
    | none => (s, .refuse .badField)
    | some e =>
      if 16 ≤ d.elements.length then (s, .refuse .full)
      else ({ s with tps := { s.tps with definition := some (d.append e s.now s.elapsed) } }, .okNumber 1 (d.elements.length + 1))

/-- TEMPLATE-ELEMENT (R108). -/
def execTemplateElement (tag : Nat) (args : Option RawElement) (s : State) : Out :=
  .next (hostRequest tag (withBody args templateElement) s)

/-- The first check of R110 that fails, if one does. -/
def endCheck (d : Definition) (t : TemplateStore) : Option RefuseReason :=
  if d.elements.isEmpty then some .badRecord
  else if hasLoop (t.contentsWith d) then some .callLoop
  else if hasDeepChain (t.contentsWith d) then some .callDepth
  else none

/-- The TPS takes a TEMPLATE-END: it publishes, or cancels the definition and says why (R110, R111). -/
def templateEnd (s : State) : State × Reply :=
  match s.tps.definition with
  | none => (s, .refuse .state)
  | some d => match endCheck d s.tps with
    | some r => ({ s with tps := s.tps.cancel }, .refuse r)
    | none => ({ s with tps := s.tps.publish d }, .okNumber 2 ((s.tps.publish d).slot d.slot).revision)

/-- TEMPLATE-END (R110). That one refused BAD_FIELD for its body leaves the definition open is DESIGN CHOICE, log 76. -/
def execTemplateEnd (tag : Nat) (empty : Bool) (s : State) : Out := .next (hostRequest tag (withoutBody empty templateEnd) s)

/-- The TPS takes a TEMPLATE-CANCEL (R109). -/
def templateCancel (s : State) : State × Reply :=
  match s.tps.definition with
  | none => (s, .refuse .state)
  | some _ => ({ s with tps := s.tps.cancel }, .okay)

/-- TEMPLATE-CANCEL (R109). -/
def execTemplateCancel (tag : Nat) (empty : Bool) (s : State) : Out := .next (hostRequest tag (withoutBody empty templateCancel) s)

/-- The note that the deletion cancelled its slot's definition (R112). -/
def deleteNote (n : Nat) (t : TemplateStore) : List Note :=
  match t.definition with | some d => if d.slot = n then [.cancelledOther n] else [] | none => []

/-- The TPS takes a TEMPLATE-DELETE (R112). NOT_FOUND before BUSY is DESIGN CHOICE, log 58. -/
def templateDelete (n : Nat) (s : State) : State × Reply :=
  if 63 < n ∨ n = 0 then (s, .refuse .badField)
  else if s.tps.holds n = false then (s, .notFound .template)
  else if s.tps.walking n then (s, .refuse .busy)
  else (deleteSlot n s, .ok (.number 2 (s.lrc.onTemplate n).length) (deleteNote n s.tps))

/-- TEMPLATE-DELETE (R112). -/
def execTemplateDelete (tag : Nat) (slot : Option Nat) (s : State) : Out := .next (hostRequest tag (withBody slot templateDelete) s)

/-- A slot's permanence set, where it holds published content (R106). -/
def setPermanence (p : Permanence) (n : Nat) (s : State) : State × Reply :=
  if s.tps.holds n then ({ s with tps := s.tps.setSlot n { s.tps.slot n with permanence := some p } }, .okay)
  else (s, .notFound .template)

/-- The TPS takes a TEMPLATE-KEEP (R106). -/
def templateKeep (n : Nat) (s : State) : State × Reply :=
  if 63 < n then (s, .refuse .badField) else setPermanence .permanent n s

/-- TEMPLATE-KEEP (R106). -/
def execTemplateKeep (tag : Nat) (slot : Option Nat) (s : State) : Out := .next (hostRequest tag (withBody slot templateKeep) s)

/-- The TPS takes a TEMPLATE-TEMP (R106). -/
def templateTemp (n : Nat) (s : State) : State × Reply :=
  if 63 < n ∨ n = 0 then (s, .refuse .badField) else setPermanence .temporary n s

/-- TEMPLATE-TEMP (R106). -/
def execTemplateTemp (tag : Nat) (slot : Option Nat) (s : State) : Out := .next (hostRequest tag (withBody slot templateTemp) s)

/-- The overlay notice for an entry's old range, where it is active (R113, step 1). -/
def noticeOld (o : Option Overlay) (s : State) : State :=
  match o with | some o => s.onLrc fun l => l.overlayNotice s.now o.first o.last | none => s

/-- An overlay entry set with a new enable stamp (R113, steps 1 to 4). -/
def setOverlay (a : OverlayArgs) (s : State) : State :=
  let s := noticeOld (s.tps.overlay a.overlay) s
  let stamp := next32 s.tps.overlayCounter
  let s := { s with tps := { s.tps with
    overlayCounter := stamp, overlays := tset s.tps.overlays a.overlay (some ⟨a.slot, a.first, a.last, stamp⟩) } }
  s.onLrc fun l => l.overlayNotice s.now a.first a.last

/-- The TPS takes an OVERLAY-SET (R113). BAD_FIELD before NOT_FOUND is DESIGN CHOICE, log 59. -/
def overlaySet (a : OverlayArgs) (s : State) : State × Reply :=
  if a.overlay ≤ 3 ∧ a.slot ≤ 63 ∧ a.first ≤ a.last ∧ a.last ≤ 1023 then
    if s.tps.holds a.slot then (setOverlay a s, .okNumber 4 (next32 s.tps.overlayCounter)) else (s, .notFound .template)
  else (s, .refuse .badField)

/-- OVERLAY-SET (R113). -/
def execOverlaySet (tag : Nat) (args : Option OverlayArgs) (s : State) : Out := .next (hostRequest tag (withBody args overlaySet) s)

/-- The TPS takes an OVERLAY-CLEAR (R114). -/
def overlayClear (n : Nat) (s : State) : State × Reply := if 3 < n then (s, .refuse .badField) else (clearOverlay n s, .okay)

/-- OVERLAY-CLEAR (R114). -/
def execOverlayClear (tag : Nat) (overlay : Option Nat) (s : State) : Out := .next (hostRequest tag (withBody overlay overlayClear) s)

/-- The open definition expires: cancelled, with TEMPLATE-CANCELLED and cause TIMEOUT (R109). -/
def expireDefinition (s : State) : State :=
  match s.tps.definition with
  | none => s
  | some d =>
    if d.deadline ≤ s.elapsed then State.report (.templateCancelled d.slot d.elements.length .timeout) { s with tps := s.tps.cancel } else s

/-- DEFINITION_TIMEOUT (R109). -/
def execDefinitionTimeout (s : State) : Out := .next (whileRunning expireDefinition s)

/-- TEMPLATE_WALK_STEP (R111). -/
def execTemplateWalkStep (s : State) : Out := .next (whileRunning templateWalk s)

end Sys2Proof.Machine
end

