-- ==== Sys2Proof/Machine/Traffic.lean ====
section
/-! DEFINITION. The traffic ports: where a frame goes (R118), its zones, cell and class (R120 to R125), and what leaves by the branch
ports (R126). -/

namespace Sys2Proof.Machine

/-- The lane-protocol frame type (R41, R118). -/
def laneType : Nat := 34997

/-- The frame type of IPv4 (PRESUMED, log 21). -/
def ipv4Type : Nat := 2048

/-- The exchange protocol identifier (R118). -/
def exchangeProtocol : Nat := 253

/-- The Till Service Unit takes a lane frame apart (R42). -/
def runLane (c : Instr) : State → State :=
  match c with
  | .laneJoin src lane t => joinFrame src lane t
  | .laneStatus src lane i => statusFrame src lane i
  | .laneOpen src lane m => openFrame src lane m
  | .laneAsk src lane m code q k mem => askFrame src lane m code q k mem
  | .laneVoid src lane m line => voidFrame src lane m line
  | .laneClose src lane m t mem => closeFrame src lane m t mem
  | .laneCancel src lane m mem => cancelFrame src lane m mem
  | _ => malformedFrame

/-- The Exchange Engine takes a datagram (R159). -/
def runDatagram (c : Instr) : State → State :=
  match c with
  | .accept n mem => takeAccept n mem
  | .jack n k mem => takeJack n k mem
  | .bhead n batch epoch count check => takeBhead n ⟨batch, epoch, count, check⟩
  | .bpart n part es last => takeBpart n part es last
  | .peerAbort n _ => takeAbort n
  | _ => strayed

/-- The IPv4 packet that a frame holds, where it is IPv4 and its header decodes (R118). -/
def packetOf (f : TrafficFrame) : Option Packet := if f.frameType = ipv4Type then parsePacket f.payload else none

/-- The octets that a packet's header encloses. -/
def Packet.content (p : Packet) : List Octet := (p.octets.take p.total).drop p.header

/-- Does a packet on the WAN port go to the Exchange Engine (R118)? -/
def Packet.isExchange (z : Forwarder) (p : Packet) : Bool :=
  p.protocol == exchangeProtocol && match z.bestMatch p.src with | some r => r.peer | none => false

/-- The frame that waits in an egress FIFO (R126). -/
def Packet.egress (length : Nat) (device : Option HwAddr) (p : Packet) : EgressFrame := ⟨p.forwarded, p.dst, length, device⟩

/-- The frame that waits in a class queue (R147). -/
def Packet.uplink (length : Nat) (p : Packet) : UplinkFrame := ⟨.packet p.forwarded, length⟩

/-- Is a frame judged under the portal exception (R123)? -/
def underPortal (port : Port) (p : Packet) (g : GuestTable) : Bool :=
  match g.portal, port with
  | some q, .guest => p.dst == q.addr
  | some q, .lan => p.src == q.addr && blockHolds q p.dst
  | _, _ => false

/-- Does the portal address classify as STORE (R123)? -/
def portalStands (s : State) : Bool := match s.gat.portal with | some q => s.zfw.rangeZone q.addr == .store | none => false

/-- A frame from the guest port that has passed the matrix (R123, R125). -/
def placeGuest (hw : HwAddr) (portal : Bool) (length : Nat) (dst : Zone) (p : Packet) (s : State) : State :=
  match guestOutbound hw p.src portal length s with
  | (s, none) => s
  | (s, some mark) =>
    if portal then enqueueEgress .lan .guest (p.egress length none) s
    else if dst = .internet then enqueueGuest mark (p.uplink length) (s.onCounts (·.forward .guest))
    else s.onCounts (·.deny .guest)

/-- A frame into the guest block that has passed the matrix (R123, R126). -/
def placeInBlock (src : Zone) (portal : Bool) (length : Nat) (p : Packet) (s : State) : State :=
  match guestInbound p.dst portal length s with
  | (s, none) => s
  | (s, some hw) => enqueueEgress .guest src (p.egress length (some hw)) s

/-- A frame bound for the WAN, handed to the Uplink Scheduler with its class and counted forwarded (R125, R133). DEDUCED, log 27. -/
def placeUplink (src dst : Zone) (length : Nat) (p : Packet) (s : State) : State :=
  match s.zfw.classOf src dst p.port with
  | some c => enqueueClass c (p.uplink length) (s.onCounts (·.forward src))
  | none => s.onCounts (·.deny src)

/-- A frame that has passed the matrix is placed by its destination zone (R121). -/
def placeFrame (f : TrafficFrame) (src dst : Zone) (portal : Bool) (p : Packet) (s : State) : State :=
  if src = .guest then placeGuest f.srcHw portal f.length dst p s
  else match dst with
    | .guest => placeInBlock src portal f.length p s
    | .store => enqueueEgress .lan src (p.egress f.length none) s
    | .till => enqueueEgress .till src (p.egress f.length none) s
    | .blocked => s.onCounts (·.deny src)
    | .headoffice => placeUplink src .headoffice f.length p s
    | .payment => placeUplink src .payment f.length p s
    | .internet => placeUplink src .internet f.length p s

/-- A frame with both zones known is judged by the portal exception or its cell (R122, R123). -/
def judgeFrameZones (f : TrafficFrame) (port : Port) (src : Zone) (p : Packet) (s : State) : State :=
  let portal := underPortal port p s.gat
  let dst := destZone p.dst s
  if (if portal then portalStands s else passes src dst p.src p.dst s.zfw) then placeFrame f src dst portal p s
  else s.onCounts (·.deny src)

/-- The Zone Forwarder takes a frame (R118, R120). -/
def forwardFrame (f : TrafficFrame) (port : Port) (s : State) : State :=
  match packetOf f with
  | none => s.onCounts (·.unroutable port)
  | some p =>
    if p.ttl ≤ 1 then s.onCounts (·.unroutable port)
    else match sourceZone port p.src s.zfw with
      | none => dropSpoofed port p.src s
      | some .blocked => s.onCounts (·.deny .blocked)
      | some z => judgeFrameZones f port z p s

/-- The exchange datagram that a WAN frame carries, if it goes to the Exchange Engine (R118). DESIGN CHOICE, log 43. -/
def exchangeOf (f : TrafficFrame) (port : Port) (z : Forwarder) : Option (List Octet) :=
  if port = .wan then
    match packetOf f with
    | some p => if p.isExchange z then some p.content else none
    | none => none
  else none

/-- A frame arrives at a traffic port (R118). -/
def frameArrives (port : Port) (f : TrafficFrame) (mem : MemFaults) (s : State) : State :=
  if f.toPart = false then s
  else if port = .till ∧ f.frameType = laneType then runLane (decodeLane f.srcHw f.payload mem) s
  else match exchangeOf f port s.zfw with
    | some d => runDatagram (decodeDatagram d mem) s
    | none => forwardFrame f port s

/-- FRAME_FORWARD (R118). -/
def execFrameForward (port : Port) (frame : TrafficFrame) (mem : MemFaults) (s : State) : Out :=
  .next (whileRunning (frameArrives port frame mem) s)

/-! ### Egress (R126) -/

/-- A frame sent by a branch port. -/
def sendEgress (p : BranchPort) (f : EgressFrame) (s : State) : State :=
  match p with
  | .lan => { s with out := { s.out with lan := some f } }
  | .till => { s with out := { s.out with till := some (.forwarded f) } }
  | .guest => { s with out := { s.out with guest := some f } }

/-- The head of an egress FIFO leaves: sent, or dropped where its station is not found on the LAN or till segment (R126). -/
def leaveFifo (p : BranchPort) (found : Bool) (s : State) : State :=
  match s.zfw.fifo p with
  | [] => s
  | f :: rest =>
    let s := { s with zfw := s.zfw.setFifo p rest }
    if found ∨ p = .guest then sendEgress p f s else s.onCounts (·.egressDrop p 1)

/-- A branch port is free to send; on the till port a waiting lane message goes first (R126). -/
def portReady (p : BranchPort) (found : Bool) (s : State) : State :=
  match p, s.tsu.outbox with
  | .till, m :: rest => { s with tsu := { s.tsu with outbox := rest }, out := { s.out with till := some (.service m) } }
  | _, _ => leaveFifo p found s

/-- EGRESS_PORT_READY (R126). -/
def execEgressPortReady (port : BranchPort) (stationFound : Bool) (s : State) : Out :=
  .next (whileRunning (portReady port stationFound) s)

end Sys2Proof.Machine
end

