-- ==== Sys2Proof/Machine/Uplinks.lean ====
section
/-! DEFINITION. The uplink requests, R155 and R156, and the uplink's events: WAN ready (R153) and the end of the PAY-DROP interval (R149). -/

namespace Sys2Proof.Machine

/-- An allowance clamped into 1,514..65,535 (R155). -/
def clampAllowance (n : Nat) : Nat := clamp 1514 65535 n

/-- The profile a PROFILE-SET writes (R155). -/
def profileOf (a : ProfileArgs) : Profile := ⟨clampAllowance a.ctrl, clampAllowance a.store, clampAllowance a.exch, clampAllowance a.guest⟩

/-- Was an allowance clamped? -/
def profileClamped (a : ProfileArgs) : Bool := profileOf a != ⟨a.ctrl, a.store, a.exch, a.guest⟩

/-- A profile replaced. -/
def Uplink.setProfile (u : Uplink) (n : ProfileName) (p : Profile) : Uplink :=
  match n with
  | .day => { u with day := p }
  | .night => { u with night := p }

/-- The ULS takes a PROFILE-SET (R155). -/
def profileSet (a : ProfileArgs) (s : State) : State × Reply :=
  match profileNameOf a.profile with
  | none => (s, .refuse .badField)
  | some n =>
    ({ s with uls := s.uls.setProfile n (profileOf a) },
     .ok (.profile (s.uls.profile n) (profileOf a)) (if profileClamped a then [.clamped] else []))

/-- PROFILE-SET (R155). -/
def execProfileSet (tag : Nat) (args : Option ProfileArgs) (s : State) : Out := .next (hostRequest tag (withBody args profileSet) s)

/-- What UPLINK-STATUS answers (R133, R156). The zeros for a PAY-DROP interval that is not running are DESIGN CHOICE, log 79. -/
def uplinkView (s : State) : UplinkView :=
  let u := s.uls
  ⟨u.day, u.night, u.inForce, u.holder, u.allowance, u.pay.figures, u.ctrl.figures, u.store.figures, u.exch.figures, u.guest.figures,
   u.throttledDrops, u.payDrop.isSome, (u.payDrop.map (·.suppressed)).getD 0, (u.payDrop.map (·.deadline - s.elapsed)).getD 0,
   s.zfw.counts, s.zfw.lanFifo.length, s.zfw.tillFifo.length, s.zfw.guestFifo.length⟩

/-- The ULS takes an UPLINK-STATUS (R156). -/
def uplinkStatus (s : State) : State × Reply := (s, .ok (.uplink (uplinkView s)) [])

/-- UPLINK-STATUS (R156). -/
def execUplinkStatus (tag : Nat) (empty : Bool) (s : State) : Out := .next (hostRequest tag (withoutBody empty uplinkStatus) s)

/-- WAN_READY (R153). -/
def execWanReady (s : State) : Out := .next (whileRunning arbitrate s)

/-- The PAY-DROP interval ends where its 60 s have run (R149). -/
def payDropEnds (s : State) : State :=
  match s.uls.payDrop with
  | none => s
  | some i => if i.deadline ≤ s.elapsed then endPayDropInterval i s else s

/-- PAY_DROP_INTERVAL_END (R149). -/
def execPayDropIntervalEnd (s : State) : Out := .next (whileRunning payDropEnds s)

end Sys2Proof.Machine
end

