-- ==== Sys2Proof/Machine/Dispatch.lean ====
section
/-! DEFINITION. The command dispatch: one arm for each constructor of `Instr`. -/

namespace Sys2Proof.Machine

/-- The effect of a command on everything but the queue. -/
def exec (i : Instr) (s : State) : Host.Outcome State Fault Refusal :=
  match i with
  | .itemPut tag args mem => Sys2Proof.Machine.execItemPut tag args mem s
  | .itemPrice tag args mem => Sys2Proof.Machine.execItemPrice tag args mem s
  | .itemDelete tag code mem => Sys2Proof.Machine.execItemDelete tag code mem s
  | .itemGet tag code mem => Sys2Proof.Machine.execItemGet tag code mem s
  | .itemBlock tag code => Sys2Proof.Machine.execItemBlock tag code s
  | .itemUnblock tag code => Sys2Proof.Machine.execItemUnblock tag code s
  | .lagAccept tag code mem => Sys2Proof.Machine.execLagAccept tag code mem s
  | .taxSet tag args => Sys2Proof.Machine.execTaxSet tag args s
  | .priceParams tag limit => Sys2Proof.Machine.execPriceParams tag limit s
  | .rosterSet tag args => Sys2Proof.Machine.execRosterSet tag args s
  | .tillStatus tag lane => Sys2Proof.Machine.execTillStatus tag lane s
  | .tillLockout tag lane => Sys2Proof.Machine.execTillLockout tag lane s
  | .tillRelease tag lane => Sys2Proof.Machine.execTillRelease tag lane s
  | .tillClear tag lane mem => Sys2Proof.Machine.execTillClear tag lane mem s
  | .tillParams tag args mem => Sys2Proof.Machine.execTillParams tag args mem s
  | .journalStatus tag empty => Sys2Proof.Machine.execJournalStatus tag empty s
  | .journalRead tag args mem => Sys2Proof.Machine.execJournalRead tag args mem s
  | .labelAdd tag args => Sys2Proof.Machine.execLabelAdd tag args s
  | .labelBind tag args => Sys2Proof.Machine.execLabelBind tag args s
  | .labelUnbind tag addr => Sys2Proof.Machine.execLabelUnbind tag addr s
  | .labelRemove tag addr => Sys2Proof.Machine.execLabelRemove tag addr s
  | .labelGet tag addr => Sys2Proof.Machine.execLabelGet tag addr s
  | .railSet tag args => Sys2Proof.Machine.execRailSet tag args s
  | .labelParams tag args => Sys2Proof.Machine.execLabelParams tag args s
  | .templateBegin tag slot => Sys2Proof.Machine.execTemplateBegin tag slot s
  | .templateElement tag args => Sys2Proof.Machine.execTemplateElement tag args s
  | .templateEnd tag empty => Sys2Proof.Machine.execTemplateEnd tag empty s
  | .templateCancel tag empty => Sys2Proof.Machine.execTemplateCancel tag empty s
  | .templateDelete tag slot => Sys2Proof.Machine.execTemplateDelete tag slot s
  | .templateKeep tag slot => Sys2Proof.Machine.execTemplateKeep tag slot s
  | .templateTemp tag slot => Sys2Proof.Machine.execTemplateTemp tag slot s
  | .overlaySet tag args => Sys2Proof.Machine.execOverlaySet tag args s
  | .overlayClear tag overlay => Sys2Proof.Machine.execOverlayClear tag overlay s
  | .rangeSet tag args => Sys2Proof.Machine.execRangeSet tag args s
  | .rangeClear tag index => Sys2Proof.Machine.execRangeClear tag index s
  | .policySet tag args => Sys2Proof.Machine.execPolicySet tag args s
  | .kindSet tag args => Sys2Proof.Machine.execKindSet tag args s
  | .hintSet tag args => Sys2Proof.Machine.execHintSet tag args s
  | .portalSet tag args => Sys2Proof.Machine.execPortalSet tag args s
  | .guestService tag args => Sys2Proof.Machine.execGuestService tag args s
  | .guestAdmit tag args => Sys2Proof.Machine.execGuestAdmit tag args s
  | .guestBar tag hw => Sys2Proof.Machine.execGuestBar tag hw s
  | .guestEnd tag hw => Sys2Proof.Machine.execGuestEnd tag hw s
  | .guestGet tag hw => Sys2Proof.Machine.execGuestGet tag hw s
  | .profileSet tag args => Sys2Proof.Machine.execProfileSet tag args s
  | .uplinkStatus tag empty => Sys2Proof.Machine.execUplinkStatus tag empty s
  | .blockSize tag pages => Sys2Proof.Machine.execBlockSize tag pages s
  | .exchangeStart tag branch => Sys2Proof.Machine.execExchangeStart tag branch s
  | .exchangeAbort tag empty => Sys2Proof.Machine.execExchangeAbort tag empty s
  | .exchangeStatus tag empty => Sys2Proof.Machine.execExchangeStatus tag empty s
  | .cutoverAt tag args => Sys2Proof.Machine.execCutoverAt tag args s
  | .cutoverNow tag drain => Sys2Proof.Machine.execCutoverNow tag drain s
  | .clockSet tag reading => Sys2Proof.Machine.execClockSet tag reading s
  | .identify tag empty => Sys2Proof.Machine.execIdentify tag empty s
  | .faultRead tag domain => Sys2Proof.Machine.execFaultRead tag domain s
  | .faultClear tag args => Sys2Proof.Machine.execFaultClear tag args s
  | .reset tag kind => Sys2Proof.Machine.execReset tag kind s
  | .unknownKind tag kind => Sys2Proof.Machine.execUnknownKind tag kind s
  | .frameError cause => Sys2Proof.Machine.execFrameError cause s
  | .hostRead => Sys2Proof.Machine.execHostRead s
  | .powerOn check mem => Sys2Proof.Machine.execPowerOn check mem s
  | .resetRequest check mem => Sys2Proof.Machine.execResetRequest check mem s
  | .branchClockTick => Sys2Proof.Machine.execBranchClockTick s
  | .lagDue code => Sys2Proof.Machine.execLagDue code s
  | .laneJoin src lane tillId => Sys2Proof.Machine.execLaneJoin src lane tillId s
  | .laneStatus src lane ind => Sys2Proof.Machine.execLaneStatus src lane ind s
  | .laneOpen src lane msg => Sys2Proof.Machine.execLaneOpen src lane msg s
  | .laneAsk src lane msg code quantity keyed mem => Sys2Proof.Machine.execLaneAsk src lane msg code quantity keyed mem s
  | .laneVoid src lane msg line => Sys2Proof.Machine.execLaneVoid src lane msg line s
  | .laneClose src lane msg tender mem => Sys2Proof.Machine.execLaneClose src lane msg tender mem s
  | .laneCancel src lane msg mem => Sys2Proof.Machine.execLaneCancel src lane msg mem s
  | .laneMessageMalformed => Sys2Proof.Machine.execLaneMessageMalformed s
  | .pollTime lane => Sys2Proof.Machine.execPollTime lane s
  | .reconnectExpiry lane mem => Sys2Proof.Machine.execReconnectExpiry lane mem s
  | .abandonRetry lane mem => Sys2Proof.Machine.execAbandonRetry lane mem s
  | .radioFrame mem => Sys2Proof.Machine.execRadioFrame mem s
  | .radioHandoverFail failure => Sys2Proof.Machine.execRadioHandoverFail failure s
  | .labelAck slot answer => Sys2Proof.Machine.execLabelAck slot answer s
  | .railPollAnswer bitmap => Sys2Proof.Machine.execRailPollAnswer bitmap s
  | .radioFrameEnd => Sys2Proof.Machine.execRadioFrameEnd s
  | .definitionTimeout => Sys2Proof.Machine.execDefinitionTimeout s
  | .templateWalkStep => Sys2Proof.Machine.execTemplateWalkStep s
  | .frameForward port frame mem => Sys2Proof.Machine.execFrameForward port frame mem s
  | .egressPortReady port stationFound => Sys2Proof.Machine.execEgressPortReady port stationFound s
  | .wanReady => Sys2Proof.Machine.execWanReady s
  | .payDropIntervalEnd => Sys2Proof.Machine.execPayDropIntervalEnd s
  | .guestIdle hw => Sys2Proof.Machine.execGuestIdle hw s
  | .guestExpiry hw => Sys2Proof.Machine.execGuestExpiry hw s
  | .guestCooldownEnd hw => Sys2Proof.Machine.execGuestCooldownEnd hw s
  | .accept session mem => Sys2Proof.Machine.execAccept session mem s
  | .jack session block mem => Sys2Proof.Machine.execJack session block mem s
  | .bhead session batch epoch count check => Sys2Proof.Machine.execBhead session batch epoch count check s
  | .bpart session part entries last => Sys2Proof.Machine.execBpart session part entries last s
  | .peerAbort session reason => Sys2Proof.Machine.execPeerAbort session reason s
  | .strayDatagram => Sys2Proof.Machine.execStrayDatagram s
  | .helloTimeout => Sys2Proof.Machine.execHelloTimeout s
  | .uploadIntervalExpiry mem => Sys2Proof.Machine.execUploadIntervalExpiry mem s
  | .backResend => Sys2Proof.Machine.execBackResend s
  | .partTimeout => Sys2Proof.Machine.execPartTimeout s
  | .stagingPass1Step mem => Sys2Proof.Machine.execStagingPass1Step mem s
  | .stagingPass2Step mem => Sys2Proof.Machine.execStagingPass2Step mem s
  | .abortWalkStep mem => Sys2Proof.Machine.execAbortWalkStep mem s
  | .cutoverScheduleDue => Sys2Proof.Machine.execCutoverScheduleDue s
  | .drainLimitExpiry => Sys2Proof.Machine.execDrainLimitExpiry s
  | .applyWalkStep mem => Sys2Proof.Machine.execApplyWalkStep mem s
  | .mainPowerLoss => Sys2Proof.Machine.execMainPowerLoss s

end Sys2Proof.Machine
end

