-- ==== Sys2Proof/Machine/Step.lean ====
section
/-! DEFINITION. One step of the part: the command at the front of the queue, and how commands come to stand there. -/

namespace Sys2Proof.Machine

/-- One step: the command that has waited longest is taken from the queue and has its effect; with none waiting the part idles (log 4). -/
def step (s : State) : Host.Outcome State Fault Refusal :=
  match s.pending with
  | [] => .next s
  | c :: rest => exec c { s with pending := rest }

/-- A command put at the front of the queue. -/
def State.withFront (c : Instr) (s : State) : State := { s with pending := c :: s.pending }

/-- The command that a word of the opcode table spells put at the front of the queue; the table gives no row bits, so no word spells one. DESIGN CHOICE, log 32. -/
def State.withFetchWord (s : State) (nbits w : Nat) : State :=
  match Sys2Proof.decodeTableWord nbits w with
  | some c => s.withFront c
  | none => s

/-- The octets that the host writes join the queue as the commands they amount to; `r` is where the receiver stands (R179). -/
def State.hostWrites (r : Receiver) (os : List Octet) (mem : MemFaults) (s : State) : Receiver × State :=
  ((receive mem r os).1, { s with pending := s.pending ++ (receive mem r os).2 })

end Sys2Proof.Machine
end

