-- ==== Sys2Proof/Safety.lean ====
section
/-! DEFINITION. What a sound state of the part is, in the terms the statements use: the capacities, orders and fixed values that every
command keeps, and the forms of a request's outcome. -/

namespace Sys2Proof.Machine

/-! ### Capacities -/

/-- The Report Queue holds up to 64 reports (R183). -/
def State.reportsBounded (s : State) : Prop := s.msp.reports.length ≤ 64

/-- At most 8 requests are unreplied, and the immediate-refusal list holds up to 8 replies (R180). -/
def State.repliesBounded (s : State) : Prop := s.msp.unreplied ≤ 8 ∧ s.msp.immediates ≤ 8

/-- Each egress FIFO holds up to 256 frames (R126), and each class queue up to its capacity (R147). -/
def State.queuesBounded (s : State) : Prop :=
  (∀ p, (s.zfw.fifo p).length ≤ 256) ∧ ∀ c, (s.uls.queue c).frames.length ≤ c.capacity

/-- The guest sessions stand in ascending order of address, one for each, up to 512 (R135). -/
def State.guestsOrdered (s : State) : Prop :=
  (s.gat.sessions.Pairwise fun a b => a.key < b.key) ∧ s.gat.sessions.length ≤ 512

/-- No basket has more than 200 lines, and none comes to more than 9,999,999 pu (R33, R51). -/
def State.basketsBounded (s : State) : Prop :=
  ∀ b ∈ s.tsu.baskets.toList, b.lines.length ≤ 200 ∧ runningTotal b.lines ≤ maxAmount

/-! ### Tables -/

/-- The item records stand in ascending code order, one for each code, up to 32,768, each with a code in range (R1). -/
def State.itemsOrdered (s : State) : Prop :=
  (s.itb.items.Pairwise fun a b => a.code < b.code) ∧ s.itb.items.length ≤ maxItems ∧ ∀ r ∈ s.itb.items, codeOk r.code = true

/-- The label entries stand in ascending order of address, one for each, at addresses that exist (R79). -/
def State.labelsOrdered (s : State) : Prop :=
  (s.lrc.directory.Pairwise fun a b => a.key < b.key) ∧ ∀ e ∈ s.lrc.directory, addrOk e.addr = true

/-- An item record whose count is the number of its labels that are not EXCLUDED and confirm another version, whose lag start and previous
record are present exactly while the count is above 0, and whose labels stand only beside a current, four at most (R6 to R8). -/
def ItemRecord.sound (r : ItemRecord) : Prop :=
  r.count = r.pendingCount ∧ (r.lagStart.isSome = true ↔ 0 < r.count) ∧ (r.previous.isSome = true ↔ 0 < r.count) ∧
    (r.labels ≠ [] → r.current.isSome = true) ∧ r.labels.length ≤ 4

/-- Every item record is sound. -/
def State.itemsSound (s : State) : Prop := ∀ r ∈ s.itb.items, r.sound

/-- Every present session stands in the state that its lockout flag, the hold and its basket settle (R44). -/
def State.sessionsSettled (s : State) : Prop :=
  ∀ lane ∈ lanes, (s.session lane).state.isPresent = true →
    (s.session lane).state = settled (s.session lane).lockout s.tsu.hold (s.basket lane).isOpen

/-- Slot 0 holds published content and is PERMANENT (R106, R117). -/
def State.baseStands (s : State) : Prop := s.tps.holds 0 = true ∧ (s.tps.slot 0).permanence = some .permanent

/-- The value of a fixed cell: ALLOW from GUEST to INTERNET and back, else DENY (R122). -/
def fixedValue (src dst : Zone) : Policy :=
  if (src = .guest ∧ dst = .internet) ∨ (src = .internet ∧ dst = .guest) then .allow else .deny

/-- The fixed cells hold their values, and PAYMENT_ONLY stands only between TILL and PAYMENT (R122). -/
def State.cellsFixed (s : State) : Prop :=
  ∀ src dst, (fixedCell src dst = true → s.zfw.cell src dst = fixedValue src dst) ∧
    (s.zfw.cell src dst = .paymentOnly → paymentCell src dst = true)

/-- At most one Range Table entry holds the exchange-peer flag and at most one the payment claim, each only with its zone (R119). -/
def State.flagsSingle (s : State) : Prop :=
  (∀ i j, i < 32 → j < 32 → (s.zfw.range i).peer = true → (s.zfw.range j).peer = true → i = j) ∧
  (∀ i j, i < 32 → j < 32 → (s.zfw.range i).claim = true → (s.zfw.range j).claim = true → i = j) ∧
  ∀ i, i < 32 → ((s.zfw.range i).peer = true → (s.zfw.range i).zone = .headoffice) ∧
    ((s.zfw.range i).claim = true → (s.zfw.range i).zone = .payment)

/-! ### Settings -/

/-- Is a profile's every allowance in 1,514..65,535 (R150)? -/
def Profile.inRange (p : Profile) : Prop := ∀ c, 1514 ≤ p.allowance c ∧ p.allowance c ≤ 65535

/-- Every setting lies in its range: lag limit (R11), tax rates (R19), poll period and window (R60), retry limit and presence period
(R102), idle limit (R138), profiles (R150), block size (R160). -/
def State.settingsInRange (s : State) : Prop :=
  (60 ≤ s.itb.lagLimit ∧ s.itb.lagLimit ≤ 7200) ∧ (∀ b, tget s.itb.rates b 0 ≤ 9999) ∧
  (1 ≤ s.tsu.pollPeriod ∧ s.tsu.pollPeriod ≤ 10) ∧ (30 ≤ s.tsu.window ∧ s.tsu.window ≤ 600) ∧
  (1 ≤ s.lrc.retryLimit ∧ s.lrc.retryLimit ≤ 15) ∧ (3600 ≤ s.lrc.presence ∧ s.lrc.presence ≤ 86400) ∧
  (60 ≤ s.gat.idleLimit ∧ s.gat.idleLimit ≤ 3600) ∧ s.uls.day.inRange ∧ s.uls.night.inRange ∧
  ∀ n, s.xce.blockSize = some n → n = 2 ∨ n = 4 ∨ n = 8 ∨ n = 16

/-! ### Outcomes -/

/-- A part that works and serves its tills, with a present session of this station on a lane: the premises of a numbered message that is new
(R42, R43). -/
def State.takesNew (src : HwAddr) (lane msg : Nat) (s : State) : Bool :=
  s.power == .running && s.tsu.serving && laneOk lane && (s.session lane).state.isPresent && (s.session lane).station == some src
    && messageOk msg && ((s.session lane).repeated msg).isNone

/-- A session that has taken a numbered message keeps its number and reply, and a frame with the reply waits for the station (R43). -/
def State.keptAndSent (src : HwAddr) (lane msg : Nat) (r : LaneMessage) (s t : State) : Prop :=
  (t.session lane).last = some ⟨msg, r⟩ ∧ t.tsu.outbox = s.tsu.outbox ++ [⟨src, [r]⟩]

end Sys2Proof.Machine
end

