-- ==== Sys2Proof/Certificates/Slice0/Obligations.lean ====
section
/-! DEFINITION. The statements for the provers, each citing the rule or section of spec/ it formalises. A command's outcome is written
`exec c s = .next t`; `t = { s with … }` names every block that may differ, so that it is also the frame. -/

open Sys2Proof Sys2Proof.Machine

/-! ### The queue of commands, power and time -/

/-- One step takes the command that has waited longest. -/
def Obligations.StepRunsTheFrontCommand : Prop :=
  ∀ (c : Instr) (rest : List Instr) (s : State), s.pending = c :: rest → step s = exec c { s with pending := rest }

/-- No command takes, adds or reorders a waiting command; and without main power only the clock's tick, a further loss of power and POWER_ON
change anything: R189 says so of request frames, and of every other command the model deduces it (log 44, DEDUCED). -/
def Obligations.CommandsLeaveTheQueueAndADeadPartAlone : Prop :=
  (∀ (c : Instr) (s t : State), exec c s = .next t → t.pending = s.pending) ∧
  (∀ (c : Instr) (s : State), s.power = .off → c ≠ .branchClockTick → c ≠ .mainPowerLoss → (∀ k m, c ≠ .powerOn k m) →
     exec c s = .next s)

/-! ### Reset -/

/-- The values the spec gives after a cold start, block by block (R23, R63, R78, R103, R117, R122, R134, R146, R157, R176, R187, R188). -/
def Obligations.ResetHoldsTheColdStartValues : Prop :=
  State.reset.itb.items = [] ∧ State.reset.itb.epoch = 1 ∧ State.reset.itb.pendingBatch = none ∧
  State.reset.itb.rates = Vector.replicate 8 0 ∧ State.reset.itb.lagLimit = 1800 ∧
  (∀ e ∈ State.reset.tsu.roster.toList, e.tillId = List.replicate 8 32 ∧ e.allowed = false ∧ e.policy = .refuse ∧ e.band = 0) ∧
  (∀ x ∈ State.reset.tsu.sessions.toList, x.state = .absent ∧ x.lockout = false) ∧
  (∀ b ∈ State.reset.tsu.baskets.toList, b.isOpen = false ∧ b.sequence = 0) ∧
  State.reset.tsu.pollPeriod = 2 ∧ State.reset.tsu.window = 120 ∧ State.reset.tsu.hold = false ∧
  State.reset.tsu.malformed = 0 ∧ State.reset.jnl.records = [] ∧ State.reset.jnl.append = ⟨0, 1⟩ ∧ State.reset.jnl.mark = ⟨0, 1⟩ ∧
  State.reset.jnl.oldest = ⟨0, 1⟩ ∧ State.reset.jnl.limit = none ∧ State.reset.jnl.highArmed = true ∧ State.reset.jnl.fullArmed = true ∧
  State.reset.jnl.fullRefusals = 0 ∧
  State.reset.lrc.directory = [] ∧ State.reset.lrc.queue = [] ∧ (∀ r ∈ State.reset.lrc.rails.toList, r.code = 30 ∧ r.lastPoll = none) ∧
  State.reset.lrc.retryLimit = 4 ∧ State.reset.lrc.presence = 21600 ∧ State.reset.lrc.port = .ok ∧ State.reset.lrc.stale = 0 ∧
  State.reset.tps.slot 0 = ⟨.defined, some [⟨.description, 0, 0, 1⟩, ⟨.priceMain, 3, 0, 4⟩, ⟨.priceFraction, 3, 12, 2⟩, ⟨.promoBadge, 6, 0, 1⟩,
    ⟨.comparison, 7, 0, 1⟩], 1, some .permanent⟩ ∧
  (∀ n, 1 ≤ n → n ≤ 63 → State.reset.tps.slot n = ⟨.empty, none, 0, none⟩) ∧
  State.reset.tps.overlays = Vector.replicate 4 none ∧ State.reset.tps.overlayCounter = 0 ∧
  State.reset.tps.definition = none ∧ State.reset.tps.walks = [] ∧
  State.reset.zfw.ranges = Vector.replicate 32 RangeEntry.cleared ∧ State.reset.zfw.kinds = Vector.replicate 8 none ∧
  (∀ x y, State.reset.zfw.cell x y = if (x, y) ∈ ([(.store, .store), (.store, .till), (.store, .headoffice), (.store, .internet),
    (.till, .store), (.till, .headoffice), (.till, .payment), (.guest, .internet), (.headoffice, .store), (.headoffice, .till),
    (.payment, .till), (.internet, .store), (.internet, .guest)] : List (Zone × Zone)) then .allow else .deny) ∧
  State.reset.zfw.hints = Vector.replicate 6 ⟨.store, .store, .store, .store⟩ ∧
  (∀ p, State.reset.zfw.fifo p = []) ∧
  State.reset.gat.sessions = [] ∧ State.reset.gat.isOpen = false ∧ State.reset.gat.portal = none ∧ State.reset.gat.idleLimit = 900 ∧
  State.reset.gat.fullArmed = true ∧ State.reset.gat.evictions = 0 ∧
  (∀ c, State.reset.uls.queue c = ⟨[], 0, 0, 0⟩) ∧ State.reset.uls.throttledDrops = 0 ∧ State.reset.uls.payDrop = none ∧
  State.reset.uls.holder = .guest ∧ State.reset.uls.allowance = 0 ∧ State.reset.uls.inForce = .day ∧
  State.reset.uls.day = ⟨4000, 16000, 8000, 8000⟩ ∧ State.reset.uls.night = ⟨4000, 8000, 48000, 2000⟩ ∧
  State.reset.xce.session.state = .idle ∧ State.reset.xce.staging = [] ∧ State.reset.xce.counter = 0 ∧ State.reset.xce.blockSize = none ∧
  State.reset.xce.cutover.state = .none ∧
  State.reset.msp.replies = [] ∧ State.reset.msp.reports = [⟨0, .started .cold .power .absent 0 false⟩] ∧
  (∀ d, State.reset.msp.faultRecord d = ⟨0, none⟩) ∧ State.reset.msp.frameErrors = 0 ∧ State.reset.msp.clock.reading = 0 ∧
  State.reset.msp.clock.isSet = false ∧ State.reset.msp.checkWritten = true

/-- The part is sound right after reset. -/
def Obligations.ResetIsSound : Prop :=
  State.reset.reportsBounded ∧ State.reset.repliesBounded ∧ State.reset.queuesBounded ∧ State.reset.itemsOrdered ∧
  State.reset.labelsOrdered ∧ State.reset.guestsOrdered ∧ State.reset.itemsSound ∧ State.reset.basketsBounded ∧ State.reset.sessionsSettled ∧
  State.reset.cellsFixed ∧ State.reset.flagsSingle ∧ State.reset.settingsInRange ∧ State.reset.baseStands

/-! ### What every step keeps -/

/-- No queue of the part outgrows its capacity: reports, replies, egress FIFOs, class queues (R126, R147, R180, R183). -/
def Obligations.StepKeepsEveryQueueWithinItsCapacity : Prop :=
  ∀ (s t : State), s.reportsBounded → s.repliesBounded → s.queuesBounded → step s = .next t →
    t.reportsBounded ∧ t.repliesBounded ∧ t.queuesBounded

/-- The item records, the label entries and the guest sessions stay in order, one to a key, within their tables (R1, R79, R135). -/
def Obligations.StepKeepsTheTablesOrdered : Prop :=
  ∀ (s t : State), step s = .next t →
    (s.itemsOrdered → t.itemsOrdered) ∧ (s.labelsOrdered → t.labelsOrdered) ∧ (s.guestsOrdered → t.guestsOrdered)

/-- Every item record has a previous record if and only if its pending-label count is above 0, and that count is true (R7, R8). -/
def Obligations.StepKeepsPreviousWhileLabelsPend : Prop :=
  ∀ (s t : State), s.itemsSound → step s = .next t → t.itemsSound

/-- No basket grows past 200 lines or 9,999,999 pu (R33, R51), and a present session always stands in its settled state (R44). -/
def Obligations.StepKeepsBasketsAndSessionsSound : Prop :=
  ∀ (s t : State), step s = .next t → (s.basketsBounded → t.basketsBounded) ∧ (s.sessionsSettled → t.sessionsSettled)

/-- No command moves a fixed cell, puts PAYMENT_ONLY elsewhere, or gives two entries one flag (R119, R122, R127, R129), and every setting stays
in its range. -/
def Obligations.StepKeepsFixedCellsFlagsAndSettings : Prop :=
  ∀ (s t : State), step s = .next t →
    (s.cellsFixed → t.cellsFixed) ∧ (s.flagsSingle → t.flagsSingle) ∧ (s.settingsInRange → t.settingsInRange)

/-- Slot 0 is never emptied and never TEMPORARY (R106, R112, R116). -/
def Obligations.StepKeepsTheBaseTemplate : Prop :=
  ∀ (s t : State), s.baseStands → step s = .next t → t.baseStands

/-! ### Items (01) -/

/-- ITEM-PUT of a code that no record has: a record with version 0, no labels and the given current, and one PRICE record (R13, R14). -/
def Obligations.ItemPutCreatesARecord : Prop :=
  ∀ (tag : Nat) (a : ItemPutArgs) (p : PriceRecord) (mem : MemFaults) (s : State),
    s.canTake = true → codeOk a.code = true → a.desc.length ≤ 24 → a.band ≤ 7 → checkPrice a.price = .ok p →
    s.item a.code = none → s.itb.items.length < 32768 → s.jnl.fits (.price a.code none (some p.unit) .itemPut) = true →
    ∃ t, exec (.itemPut tag (some a) mem) s = .next t ∧
      t = { s with itb := { s.itb with items := t.itb.items }, jnl := t.jnl, msp := t.msp } ∧
      t.item a.code = some ⟨a.code, a.desc, a.band, false, false, some p, none, none, 0, [], 0, none, false⟩ ∧
      (∀ c, c ≠ a.code → t.item c = s.item c) ∧
      t.jnl.records.getLast? = some ⟨s.jnl.append.seq, s.jnl.append.pos, 1, s.now, s.msp.clock.isSet, false, [],
        .price a.code none (some p.unit) .itemPut⟩ ∧
      t.msp.replies = s.msp.replies ++ [⟨tag, .ok (.number 2 0) [], .request⟩] ∧ t.msp.clock = s.msp.clock

/-- ITEM-PUT of a code that a record has: a new current and the next version, the count true for it, DAMAGED cleared, BLOCKED, pending
record and labels kept (R3, R7, R14). -/
def Obligations.ItemPutRewritesARecord : Prop :=
  ∀ (tag : Nat) (a : ItemPutArgs) (p : PriceRecord) (mem : MemFaults) (r : ItemRecord) (s : State),
    s.canTake = true → codeOk a.code = true → a.desc.length ≤ 24 → a.band ≤ 7 → checkPrice a.price = .ok p →
    s.item a.code = some r → s.jnl.fits (.price a.code (oldUnit (some r)) (some p.unit) .itemPut) = true →
    ∃ t r', exec (.itemPut tag (some a) mem) s = .next t ∧
      t = { s with itb := { s.itb with items := t.itb.items }, jnl := t.jnl, lrc := t.lrc, msp := t.msp } ∧
      t.item a.code = some r' ∧ (∀ c, c ≠ a.code → t.item c = s.item c) ∧
      r'.version = (if r.version < 65535 then r.version + 1 else 0) ∧ r'.current = some p ∧ r'.desc = a.desc ∧ r'.band = a.band ∧
      r'.damaged = false ∧ r'.blocked = r.blocked ∧ r'.pending = r.pending ∧ r'.labels = r.labels ∧ r'.count = r'.pendingCount ∧
      t.jnl.records.getLast? = some ⟨s.jnl.append.seq, s.jnl.append.pos, 1, s.now, s.msp.clock.isSet, false, [],
        .price a.code (oldUnit (some r)) (some p.unit) .itemPut⟩ ∧
      t.msp.replies = s.msp.replies ++ [⟨tag, .ok (.number 2 r'.version) [], .request⟩] ∧ t.msp.clock = s.msp.clock

/-- ITEM-PRICE: a new current and the next version, everything else of the record kept, and previous by the keeping rule where the
outgoing record can be read (R3, R9, R15). -/
def Obligations.ItemPriceKeepsTheLowestRecord : Prop :=
  ∀ (tag : Nat) (a : ItemPriceArgs) (p : PriceRecord) (mem : MemFaults) (r : ItemRecord) (s : State),
    s.canTake = true → codeOk a.code = true → checkPrice a.price = .ok p → s.item a.code = some r → r.damaged = false →
    a.code ∉ mem.items → s.jnl.fits (.price a.code (oldUnit (some r)) (some p.unit) .itemPrice) = true →
    ∃ t r', exec (.itemPrice tag (some a) mem) s = .next t ∧
      t = { s with itb := { s.itb with items := t.itb.items }, jnl := t.jnl, lrc := t.lrc, msp := t.msp } ∧
      t.item a.code = some r' ∧ (∀ c, c ≠ a.code → t.item c = s.item c) ∧
      r' = { r with
        version := r'.version, current := some p, count := r'.pendingCount, previous := r'.previous
        lagStart := r'.lagStart, lagReported := r'.lagReported } ∧
      r'.version = (if r.version < 65535 then r.version + 1 else 0) ∧
      (r'.count = 0 → r'.previous = none) ∧
      (0 < r'.count → ∀ o, r.current = some o → r.previous = none → r'.previous = some ⟨o, r.version⟩) ∧
      (0 < r'.count → r.current = none → r.previous = none → r'.previous = some ⟨p, r'.version⟩) ∧
      (0 < r'.count → ∀ e, r.current = none → r.previous = some e → r'.previous = some e) ∧
      (0 < r'.count → ∀ o e, r.current = some o → r.previous = some e →
        r'.previous = some (if referenceAmount o < referenceAmount e.record then ⟨o, r.version⟩ else e)) ∧
      t.msp.replies = s.msp.replies ++ [⟨tag, .ok (.number 2 r'.version) [], .request⟩]

/-- ITEM-DELETE: the record gone whole, its labels unbound with their templates kept, one PRICE record with no new price (R13, R16). The old
price is that of the record's current, for a DAMAGED record too (log 17, DEDUCED). -/
def Obligations.ItemDeleteUnbindsAndRemoves : Prop :=
  ∀ (tag code : Nat) (mem : MemFaults) (r : ItemRecord) (s : State),
    s.canTake = true → codeOk code = true → s.item code = some r →
    s.jnl.fits (.price code (oldUnit (some r)) none .itemDelete) = true →
    ∃ t, exec (.itemDelete tag (some code) mem) s = .next t ∧
      t = { s with itb := { s.itb with items := t.itb.items }, jnl := t.jnl, lrc := t.lrc, msp := t.msp } ∧
      t.item code = none ∧ (∀ c, c ≠ code → t.item c = s.item c) ∧
      (∀ a ∈ r.labels.map (·.addr), ∀ e, s.lrc.entry a = some e → e.item = some code →
        ∃ e', t.lrc.entry a = some e' ∧ e'.item = none ∧ e'.excluded = false ∧ e'.template = e.template) ∧
      t.jnl.records.getLast? = some ⟨s.jnl.append.seq, s.jnl.append.pos, 1, s.now, s.msp.clock.isSet, false, [],
        .price code (oldUnit (some r)) none .itemDelete⟩ ∧
      t.msp.replies = s.msp.replies ++ [⟨tag, .ok .empty [], .request⟩]

/-- ITEM-BLOCK and ITEM-UNBLOCK: the flag of one record, and nothing else, with their refusals (R18); TAX-SET writes one rate, clamped to 9,999,
or is refused (R19). -/
def Obligations.BlockUnblockAndTaxSetWriteOneField : Prop :=
  (∀ (tag code : Nat) (s : State), s.canTake = true →
     (codeOk code = false →
       exec (.itemBlock tag (some code)) s = .next (s.addReply tag .request (.refused .badField .noDetail)) ∧
       exec (.itemUnblock tag (some code)) s = .next (s.addReply tag .request (.refused .badField .noDetail))) ∧
     (codeOk code = true → s.item code = none →
       exec (.itemBlock tag (some code)) s = .next (s.addReply tag .request (.refused .notFound (.missing .item))) ∧
       exec (.itemUnblock tag (some code)) s = .next (s.addReply tag .request (.refused .notFound (.missing .item)))) ∧
     (codeOk code = true → ∀ r, s.item code = some r → ∃ t u,
       exec (.itemBlock tag (some code)) s = .next t ∧ exec (.itemUnblock tag (some code)) s = .next u ∧
       t.item code = some { r with blocked := true } ∧ u.item code = some { r with blocked := false } ∧
       (∀ c, c ≠ code → t.item c = s.item c ∧ u.item c = s.item c) ∧
       t = { s with itb := { s.itb with items := t.itb.items }, msp := t.msp } ∧
       u = { s with itb := { s.itb with items := u.itb.items }, msp := u.msp } ∧
       t.msp = { s.msp with replies := s.msp.replies ++ [⟨tag, .ok .empty [], .request⟩] } ∧ u.msp = t.msp)) ∧
  (∀ (tag : Nat) (a : TaxArgs) (s : State), s.canTake = true →
     exec (.taxSet tag (some a)) s = .next (
       if a.band ≤ 7 then
         { s with itb := { s.itb with rates := s.itb.rates.setIfInBounds a.band (if 9999 < a.rate then 9999 else a.rate) } }.addReply tag .request
           (.ok .empty (if 9999 < a.rate then [.clamped] else []))
       else s.addReply tag .request (.refused .badField .noDetail)))

/-- LAG-ACCEPT: nothing where the count is 0; else one LAG record, the lagging labels EXCLUDED in the directory, and the record with
count 0 and no previous (R7, R12). -/
def Obligations.LagAcceptExcludesTheLaggingLabels : Prop :=
  ∀ (tag code : Nat) (mem : MemFaults) (r : ItemRecord) (s : State),
    s.canTake = true → codeOk code = true → s.item code = some r →
    (r.count = 0 → exec (.lagAccept tag (some code) mem) s = .next (s.addReply tag .request (.ok (.number 1 0) []))) ∧
    (0 < r.count → s.jnl.fits (.lag code r.count) = true →
      ∃ t r', exec (.lagAccept tag (some code) mem) s = .next t ∧
        t = { s with
          itb := { s.itb with items := t.itb.items }, jnl := t.jnl, msp := t.msp
          lrc := { s.lrc with directory := t.lrc.directory } } ∧
        t.item code = some r' ∧ (∀ c, c ≠ code → t.item c = s.item c) ∧
        r' = { r with count := 0, previous := none, lagStart := none, lagReported := false, labels := r'.labels } ∧
        r'.pendingCount = 0 ∧
        t.lrc.directory = s.lrc.directory.map (fun e =>
          if e.item = some code ∧ e.confirmed ≠ some r.version then { e with excluded := true } else e) ∧
        t.jnl.records.getLast? = some ⟨s.jnl.append.seq, s.jnl.append.pos, 1, s.now, s.msp.clock.isSet, false, [], .lag code r.count⟩ ∧
        t.msp.replies = s.msp.replies ++ [⟨tag, .ok (.number 1 (s.lrc.directory.filter fun e =>
          e.item == some code && e.confirmed != some r.version && !e.excluded).length) [], .request⟩])

/-- PRICE-PARAMS sets the lag limit; every item that is then due is marked and its LABEL-LAG report queued, in code order, and no item is due
afterwards; LAG_DUE reports one item that is due, once (R11, R20). -/
def Obligations.LagIsReportedWhenItFallsDue : Prop :=
  (∀ (tag limit : Nat) (s : State), s.canTake = true →
    ∃ t, exec (.priceParams tag (some limit)) s = .next t ∧
      t = { s with itb := { s.itb with items := t.itb.items, lagLimit := clamp 60 7200 limit }, msp := t.msp } ∧
      (∀ c r, s.item c = some r →
        t.item c = some { r with lagReported := r.lagReported || r.lagDue s.now (clamp 60 7200 limit) }) ∧
      (∀ c r, t.item c = some r → r.lagDue t.now t.itb.lagLimit = false) ∧
      (s.itemsOrdered → t.msp.reports = (s.itb.items.filter fun r => r.lagDue s.now (clamp 60 7200 limit)).foldl (fun q r =>
        queueReport s.now (.labelLag r.code r.version r.count (r.lagStart.getD 0)
          ((r.labels.filter fun l => !l.excluded && l.confirmed != some r.version).map (·.addr))) q) s.msp.reports) ∧
      t.msp.replies = s.msp.replies ++
        [⟨tag, .ok .empty (if limit < 60 ∨ 7200 < limit then [.clamped] else []), .request⟩]) ∧
  (∀ (code : Nat) (r : ItemRecord) (s : State), s.power = .running → s.item code = some r →
    r.lagReported = false → (∃ l, r.lagStart = some l ∧ l + s.itb.lagLimit ≤ s.now) →
    exec (.lagDue code) s = .next ((s.putItem { r with lagReported := true }).report
      (.labelLag code r.version r.count (r.lagStart.getD 0) ((r.labels.filter fun l =>
        !l.excluded && l.confirmed != some r.version).map (·.addr)))))

/-! ### Price arithmetic (02) -/

/-- Stages 1 and 2, form by form (R27, R28), with the rounding of R24. -/
def Obligations.LineAmountFollowsStagesOneAndTwo : Prop :=
  ∀ (r : PriceRecord) (q : Nat),
    (r.mode = .each → baseAmount r q = r.unit * q) ∧
    (r.mode = .byWeight → baseAmount r q = roundDiv (r.unit * q) 1000) ∧
    (r.promo = .noPromo → lineAmount r q = baseAmount r q) ∧
    (∀ t, r.promo = .percent t → lineAmount r q = baseAmount r q - roundDiv (baseAmount r q * t) 1000) ∧
    (∀ f, r.promo = .fixedOff f → r.mode = .each → lineAmount r q = baseAmount r q - min (baseAmount r q) (f * q)) ∧
    (∀ f, r.promo = .fixedOff f → r.mode = .byWeight → lineAmount r q = baseAmount r q - min (baseAmount r q) f) ∧
    (∀ n p, r.promo = .multibuy n p → r.mode = .each → lineAmount r q = baseAmount r q) ∧
    (r.promo = .percent 999 → baseAmount r q = 1 → lineAmount r q = 0) ∧
    (r.unit = 0 → baseAmount r q = 0 ∧ lineAmount r q = 0)

/-- Stage 4: the choice between current and previous, its recorded source and LABEL_LAG, and that no answer exceeds a previous record of
the same mode (R30). -/
def Obligations.StageFourAnswersTheLowerAmount : Prop :=
  ∀ (current : PriceRecord) (version : Nat) (previous : Option Previous) (q running : Nat) (a : LineAnswer),
    computeLine current version previous q running = .ok a →
    (previous = none → a.amount = lineAmount current q ∧ a.used = .current ∧ a.labelLag = false) ∧
    (∀ p, previous = some p → a.labelLag = true) ∧
    (∀ p, previous = some p → p.record.mode = current.mode → 9999999 < lineAmount p.record q →
      a.amount = lineAmount current q ∧ a.used = .current) ∧
    (∀ p, previous = some p → p.record.mode = current.mode → lineAmount p.record q ≤ 9999999 →
      a.amount = min (lineAmount current q) (lineAmount p.record q) ∧
      a.used = (if lineAmount p.record q < lineAmount current q then .previous else .current)) ∧
    (∀ p, previous = some p → p.record.mode ≠ current.mode → a.amount = lineAmount current q ∧ a.used = .current) ∧
    (∀ p, previous = some p → p.record.mode = current.mode → a.amount ≤ lineAmount p.record q)

/-- The close computation. Stage 5: among the lines not voided whose terms are MULTIBUY, one group for each code, version, band and terms,
listed by its first line where its discount is not 0 (R34). Stage 6: the total and the band amounts, less those discounts (R35), and one
entry for each band with an amount, in ascending order, with its tax content rounded half up, never above the amount (R36). -/
def Obligations.TaxContentNeverExceedsItsBand : Prop :=
  ∀ (rates : Vector Nat 8) (lines : List Line),
    let live := lines.filter fun l => !l.voided
    let multi := live.filter fun l => match l.terms.promo with | .multibuy _ _ => true | _ => false
    let same : Line → Line → Bool := fun x l =>
      decide (l.code = x.code) && decide (l.version = x.version) && decide (l.band = x.band) && decide (l.terms = x.terms)
    let quantity : Line → Nat := fun x => ((multi.filter (same x)).map (·.quantity)).sum
    let listed : Line → Option GroupDiscount := fun x => match x.terms.promo with
      | .multibuy n p =>
        let g := quantity x / n
        if g * (n * x.terms.unit - p) = 0 then none else some ⟨x.code, x.version, x.band, g, g * (n * x.terms.unit - p)⟩
      | _ => none
    let discounts := groupDiscounts lines
    let taxes := bandTaxes rates lines
    (∃ firsts : List Line, firsts.Sublist multi ∧ (firsts.Pairwise fun x y => same x y = false) ∧
      (∀ l ∈ multi, ∃ x ∈ firsts, same x l = true) ∧ (∀ x ∈ firsts, multi.find? (same x) = some x) ∧
      discounts = firsts.filterMap listed) ∧
    basketTotal lines = (live.map (·.amount)).sum - (discounts.map (·.discount)).sum ∧
    (taxes.Pairwise fun a b => a.band < b.band) ∧
    (∀ b, b ≤ 7 →
      let amount := ((live.filter fun l => l.band == b).map (·.amount)).sum - ((discounts.filter fun g => g.band == b).map (·.discount)).sum
      let x := amount * tget rates b 0
      let y := 10000 + tget rates b 0
      (amount = 0 → ∀ e ∈ taxes, e.band ≠ b) ∧
      (0 < amount → ⟨b, amount, if y ≤ 2 * (x % y) then x / y + 1 else x / y⟩ ∈ taxes)) ∧
    (∀ e ∈ taxes, e.band ≤ 7 ∧ e.tax ≤ e.amount ∧ (tget rates e.band 0 = 0 → e.tax = 0))

/-! ### Till Service: requests and timers (03) -/

/-- ROSTER-SET writes one entry whole, and a present till that the entry no longer admits is LOST at once (R40, R47). -/
def Obligations.RosterSetLosesATillItNoLongerAdmits : Prop :=
  ∀ (tag : Nat) (a : RosterArgs) (p : UnknownPolicy) (s : State),
    s.canTake = true → laneOk a.lane = true → tillIdOk a.tillId = true → a.band ≤ 7 → policyOf a.policy = some p →
    ∃ t, exec (.rosterSet tag (some a)) s = .next t ∧
      t = { s with tsu := { s.tsu with roster := t.tsu.roster, sessions := t.tsu.sessions }, msp := t.msp } ∧
      t.roster a.lane = ⟨a.tillId, a.allowed, p, a.band⟩ ∧
      (∀ l, laneOk l = true → l ≠ a.lane → t.roster l = s.roster l ∧ t.session l = s.session l) ∧
      ((s.session a.lane).state.isPresent = true ∧ ¬(a.allowed = true ∧ (s.session a.lane).tillId = some a.tillId) →
        (t.session a.lane).state = .lost ∧ (t.session a.lane).lostReason = some .roster ∧ (t.session a.lane).lostSince = some s.now ∧
        t.msp.reports = queueReport s.now
          (.tillLost a.lane (s.session a.lane).tillId .roster (s.basket a.lane).isOpen) s.msp.reports) ∧
      (¬((s.session a.lane).state.isPresent = true ∧ ¬(a.allowed = true ∧ (s.session a.lane).tillId = some a.tillId)) →
        t.session a.lane = s.session a.lane ∧ t.msp.reports = s.msp.reports) ∧
      t.msp.replies = s.msp.replies ++ [⟨tag, .ok .empty [], .request⟩]

/-- TILL-LOCKOUT and TILL-RELEASE: the flag, and the settled state of a present session; their refusals (R44, R57). -/
def Obligations.LockoutAndReleaseSettleTheSession : Prop :=
  ∀ (tag lane : Nat) (s : State), s.canTake = true →
    (laneOk lane = false →
      exec (.tillLockout tag (some lane)) s = .next (s.addReply tag .request (.refused .badField .noDetail)) ∧
      exec (.tillRelease tag (some lane)) s = .next (s.addReply tag .request (.refused .badField .noDetail))) ∧
    (laneOk lane = true → (s.session lane).lockout = true →
      exec (.tillLockout tag (some lane)) s = .next (s.addReply tag .request (.ok .empty [])) ∧
      exec (.tillRelease tag (some lane)) s = .next ((s.setSession lane { s.session lane with
        lockout := false
        state := if (s.session lane).state.isPresent then settled false s.tsu.hold (s.basket lane).isOpen else (s.session lane).state
        }).addReply tag .request (.ok .empty []))) ∧
    (laneOk lane = true → (s.session lane).lockout = false →
      exec (.tillRelease tag (some lane)) s = .next (s.addReply tag .request (.refused .state .noDetail)) ∧
      exec (.tillLockout tag (some lane)) s = .next ((s.setSession lane { s.session lane with
        lockout := true
        state := if (s.session lane).state.isPresent then .lockedOut else (s.session lane).state
        }).addReply tag .request (.ok .empty [])))

/-- TILL-PARAMS sets both values, clamped, and no LOST lane is left whose window has run out (R47, R60). -/
def Obligations.TillParamsExpiresShortenedWindows : Prop :=
  ∀ (tag : Nat) (a : TillParamsArgs) (mem : MemFaults) (s : State), s.canTake = true →
    ∃ t, exec (.tillParams tag (some a) mem) s = .next t ∧
      t.tsu.pollPeriod = clamp 1 10 a.poll ∧ t.tsu.window = clamp 30 600 a.window ∧ t.tsu.roster = s.tsu.roster ∧
      (∀ lane, laneOk lane = true → (t.session lane).state = .lost → s.elapsed < (t.session lane).lostAt + clamp 30 600 a.window) ∧
      t.msp.replies = s.msp.replies ++ [⟨tag, .ok .empty
        (if a.poll < 1 ∨ 10 < a.poll ∨ a.window < 30 ∨ 600 < a.window then [.clamped] else []), .request⟩] ∧
      t.zfw = s.zfw ∧ t.gat = s.gat ∧ t.uls = s.uls ∧ t.power = s.power

/-- With no hold in force and the journal's room, a basket is abandoned by TILL-CLEAR, by an abandon retry and at the end of a reconnect
window: one ABANDON record with the cause, the joined till id and the lines, and the basket closed with its sequence kept (R47, R56, R58,
R67). That a retry carries the cause kept with the basket is log 38 (DEDUCED). -/
def Obligations.AbandonsJournalAndCloseTheBasket : Prop :=
  ∀ (lane : Nat) (mem : MemFaults) (s : State),
    laneOk lane = true → (s.basket lane).isOpen = true → s.tsu.hold = false →
    1 + ((s.basket lane).lines.length + 7) / 8 ≤ s.jnl.space →
    ∀ (c : Instr) (cause : AbandonCause),
      ((∃ tag, c = .tillClear tag (some lane) mem ∧ cause = .hostClear ∧ s.canTake = true) ∨
       (c = .abandonRetry lane mem ∧ s.power = .running ∧ (s.basket lane).abandonDue = true ∧ s.due (s.basket lane).retryAt = true ∧
         (s.basket lane).dueCause = some cause) ∨
       (c = .reconnectExpiry lane mem ∧ cause = .reconnectExpired ∧ s.power = .running ∧ (s.session lane).state = .lost ∧
         (s.session lane).lostAt + s.tsu.window ≤ s.elapsed)) →
      ∃ t id, exec c s = .next t ∧
        t = { s with
          tsu := { s.tsu with sessions := t.tsu.sessions, baskets := t.tsu.baskets }, jnl := t.jnl, msp := t.msp, free := t.free } ∧
        (∀ x, (s.session lane).tillId = some x → id = x) ∧
        t.basket lane = ⟨false, (s.basket lane).sequence, (s.basket lane).epoch, (s.basket lane).openTime, false, false, [], none, none⟩ ∧
        (∀ l, laneOk l = true → l ≠ lane → t.basket l = s.basket l ∧ t.session l = s.session l) ∧
        t.jnl.records.getLast? = some ⟨s.jnl.append.seq, s.jnl.append.pos, 1 + ((s.basket lane).lines.length + 7) / 8, s.now,
          s.msp.clock.isSet, false, [],
          .abandon ⟨lane, some id, (s.basket lane).sequence, (s.basket lane).epoch, (s.basket lane).openTime, s.now, (s.basket lane).mixed⟩
            cause (s.basket lane).lines⟩ ∧
        (c = .reconnectExpiry lane mem → (t.session lane).state = .absent ∧ (t.session lane).station = none)

/-- A poll time that has come: a third miss makes the session LOST, else a POLL goes to the station, with a SEEN where one is owed, and
the next poll is one period away (R46 to R48). -/
def Obligations.PollTimePollsOrLosesTheTill : Prop :=
  ∀ (lane d : Nat) (st : HwAddr) (s : State),
    s.power = .running → laneOk lane = true → (s.session lane).state.isPresent = true → (s.session lane).nextPoll = some d → d ≤ s.elapsed →
    (s.session lane).station = some st →
    let missed := if (s.session lane).polled = true ∧ (s.session lane).heard = false then (s.session lane).missed + 1
      else (s.session lane).missed
    ∃ t, exec (.pollTime lane) s = .next t ∧
      t = { s with tsu := { s.tsu with sessions := t.tsu.sessions, outbox := t.tsu.outbox }, msp := t.msp } ∧
      (∀ l, laneOk l = true → l ≠ lane → t.session l = s.session l) ∧
      (t.session lane).missed = missed ∧
      (3 ≤ missed → (t.session lane).state = .lost ∧ (t.session lane).lostReason = some .polls ∧ t.tsu.outbox = s.tsu.outbox ∧
        t.msp.reports = queueReport s.now (.tillLost lane (s.session lane).tillId .polls (s.basket lane).isOpen) s.msp.reports) ∧
      (missed < 3 → (t.session lane).state = (s.session lane).state ∧ (t.session lane).nextPoll = some (s.elapsed + s.tsu.pollPeriod) ∧
        (t.session lane).seenOwed = false ∧ t.msp = s.msp ∧
        t.tsu.outbox = s.tsu.outbox ++ [⟨st, LaneMessage.poll lane (s.session lane).state ::
          (if (s.session lane).seenOwed then [.seen lane] else [])⟩])

/-! ### The lane protocol (03) -/

/-- JOIN: an admitted till is given a settled session and its open basket back, and answered WELCOME; a second station and a till that
the roster does not admit are refused with ROSTER and a fault (R45). That the admitted session's lost reason is cleared (log 50) and its last
status is kept (log 29) is the model's choice. A JOIN by a present lane's own station is left out. -/
def Obligations.JoinAdmitsOrRefuses : Prop :=
  ∀ (src : HwAddr) (lane : Nat) (id : Text) (s : State), s.power = .running → s.tsu.serving = true → laneOk lane = true →
    ((s.session lane).state.isPresent = true ∧ (s.session lane).station ≠ some src →
      exec (.laneJoin src lane id) s =
        .next ((sendLane src [.refuse lane none .roster] s).logFault .till 101 (.secondStation lane id src))) ∧
    ((s.session lane).state.isPresent = false → ¬((s.roster lane).allowed = true ∧ (s.roster lane).tillId = id) →
      exec (.laneJoin src lane id) s = .next ((sendLane src [.refuse lane none .roster] s).logFault .till 102 (.notAdmitted lane id))) ∧
    ((s.session lane).state.isPresent = false → (s.roster lane).allowed = true → (s.roster lane).tillId = id →
      ∃ t, exec (.laneJoin src lane id) s = .next t ∧
        t = { s with tsu := { s.tsu with sessions := t.tsu.sessions, baskets := t.tsu.baskets, outbox := t.tsu.outbox } } ∧
        t.session lane = { s.session lane with
          state := settled (s.session lane).lockout s.tsu.hold (s.basket lane).isOpen
          station := some src, tillId := some id, missed := 0, service := false, seenOwed := false, last := none
          lostSince := none, lostReason := none, nextPoll := some (s.elapsed + s.tsu.pollPeriod), polled := false, heard := false } ∧
        t.basket lane = { s.basket lane with abandonDue := false, dueCause := none, retryAt := none } ∧
        (∀ l, laneOk l = true → l ≠ lane → t.session l = s.session l ∧ t.basket l = s.basket l) ∧
        t.tsu.outbox = s.tsu.outbox ++ [⟨src, [.welcome lane (settled (s.session lane).lockout s.tsu.hold (s.basket lane).isOpen)
          s.tsu.pollPeriod (if (s.basket lane).isOpen then
            some ⟨(s.basket lane).sequence, (s.basket lane).lines.length, runningTotal (s.basket lane).lines⟩ else none)]⟩])

/-- STATUS: from the joined station it is recorded, and a first service request is reported; from another it is counted foreign; on a lane
not present it is discarded. A malformed lane frame is counted (R42, R46, R48). -/
def Obligations.StatusIsRecordedOrDiscarded : Prop :=
  ∀ (src : HwAddr) (lane : Nat) (i : Indications) (s : State), s.power = .running → s.tsu.serving = true → laneOk lane = true →
    ((s.session lane).state.isPresent = false → exec (.laneStatus src lane i) s = .next s) ∧
    ((s.session lane).state.isPresent = true → (s.session lane).station ≠ some src →
      exec (.laneStatus src lane i) s =
        .next (s.setSession lane { s.session lane with foreign := bump 65535 (s.session lane).foreign })) ∧
    ((s.session lane).state.isPresent = true → (s.session lane).station = some src →
      let t := s.setSession lane { s.session lane with
        missed := 0, lastStatus := some i, heard := true, service := (s.session lane).service || i.service }
      exec (.laneStatus src lane i) s = .next (if i.service = true ∧ (s.session lane).service = false then
        t.report (.tillService lane (s.session lane).tillId i.drawerOpen i.printerLow i.basketOpen) else t)) ∧
    exec .laneMessageMalformed s = .next { s with tsu := { s.tsu with malformed := bump 65535 s.tsu.malformed } }

/-- OPEN on a READY lane: a basket with the next sequence and the present epoch, answered with line number 0 (R43, R50). -/
def Obligations.OpenStartsABasket : Prop :=
  ∀ (src : HwAddr) (lane msg : Nat) (s : State), s.takesNew src lane msg = true → (s.session lane).state = .ready →
    let n := if (s.basket lane).sequence < 4294967295 then (s.basket lane).sequence + 1 else 1
    ∃ t, exec (.laneOpen src lane msg) s = .next t ∧
      t = { s with tsu := { s.tsu with sessions := t.tsu.sessions, baskets := t.tsu.baskets, outbox := t.tsu.outbox } } ∧
      t.basket lane = ⟨true, n, s.itb.epoch, s.now, false, false, [], none, none⟩ ∧
      (t.session lane).state = settled (s.session lane).lockout s.tsu.hold true ∧
      (∀ l, laneOk l = true → l ≠ lane → t.session l = s.session l ∧ t.basket l = s.basket l) ∧
      s.keptAndSent src lane msg (.answer lane msg 0 0 none false false 0 n) t

/-- ASK for a known item that can be sold: the PCU's answer becomes the next line, and the till is told amount, source and running
total (R43, R51, R52). -/
def Obligations.AskAppendsAPricedLine : Prop :=
  ∀ (src : HwAddr) (lane msg code quantity : Nat) (keyed : Option Nat) (mem : MemFaults) (r : ItemRecord) (p : PriceRecord)
    (a : LineAnswer) (s : State),
    s.takesNew src lane msg = true → (s.session lane).state ≠ .lockedOut → (s.basket lane).isOpen = true →
    codeOk code = true → s.item code = some r → code ∉ mem.items → r.current = some p → r.blocked = false → r.damaged = false →
    (s.basket lane).lines.length < 200 →
    computeLine p r.version r.previous quantity (runningTotal (s.basket lane).lines) = .ok a →
    let n := (s.basket lane).lines.length + 1
    let line : Line := ⟨n, code, quantity, a.amount, a.used, a.version, a.terms, r.band, a.labelLag, false⟩
    ∃ t, exec (.laneAsk src lane msg code quantity keyed mem) s = .next t ∧
      t = { s with tsu := { s.tsu with sessions := t.tsu.sessions, baskets := t.tsu.baskets, outbox := t.tsu.outbox } } ∧
      t.basket lane = { s.basket lane with lines := (s.basket lane).lines ++ [line] } ∧
      (∀ l, laneOk l = true → l ≠ lane → t.session l = s.session l ∧ t.basket l = s.basket l) ∧
      s.keptAndSent src lane msg (.answer lane msg n a.amount (some a.used) a.labelLag false
        (runningTotal (s.basket lane).lines + a.amount) (s.basket lane).sequence) t

/-- VOID of a line: the line marked voided and taken out of the running total, every other line as it was (R43, R53). -/
def Obligations.VoidMarksOneLine : Prop :=
  ∀ (src : HwAddr) (lane msg n : Nat) (l : Line) (s : State),
    s.takesNew src lane msg = true → (s.session lane).state ≠ .lockedOut → (s.basket lane).isOpen = true →
    (s.basket lane).lines.find? (fun x => x.number == n) = some l →
    ∃ t, exec (.laneVoid src lane msg n) s = .next t ∧
      t = { s with tsu := { s.tsu with sessions := t.tsu.sessions, baskets := t.tsu.baskets, outbox := t.tsu.outbox } } ∧
      t.basket lane = { s.basket lane with
        lines := (s.basket lane).lines.map (fun x => if x.number = n then { x with voided := true } else x) } ∧
      (∀ l, laneOk l = true → l ≠ lane → t.session l = s.session l ∧ t.basket l = s.basket l) ∧
      runningTotal (t.basket lane).lines ≤ runningTotal (s.basket lane).lines ∧
      s.keptAndSent src lane msg (.answer lane msg n l.amount (some l.used) l.labelLag true
        (runningTotal (t.basket lane).lines) (s.basket lane).sequence) t

/-- CLOSE and CANCEL with the journal's room: a SALE with the close computation's figures, or a VOID, and the basket closed with its
sequence kept; the till is told TOTAL, or line number 0 (R43, R54, R55). -/
def Obligations.CloseAndCancelJournalAndCloseTheBasket : Prop :=
  ∀ (src : HwAddr) (lane msg : Nat) (mem : MemFaults) (s : State),
    s.takesNew src lane msg = true → (s.session lane).state ≠ .lockedOut → (s.basket lane).isOpen = true → s.tsu.hold = false →
    let b := s.basket lane
    let closed : Basket := ⟨false, b.sequence, b.epoch, b.openTime, false, false, [], none, none⟩
    let sold := b.lines.filter (fun l => !l.voided)
    (∀ (k : Nat) (tender : Tender), tenderOf k = some tender →
      1 + (b.lines.length + (groupDiscounts b.lines).length + 7) / 8 ≤ s.jnl.space →
      ∃ t, exec (.laneClose src lane msg k mem) s = .next t ∧
        t = { s with
          tsu := { s.tsu with sessions := t.tsu.sessions, baskets := t.tsu.baskets, outbox := t.tsu.outbox }, jnl := t.jnl, msp := t.msp } ∧
        t.basket lane = closed ∧ (∀ l, laneOk l = true → l ≠ lane → t.session l = s.session l ∧ t.basket l = s.basket l) ∧
        t.jnl.records.getLast? = some ⟨s.jnl.append.seq, s.jnl.append.pos,
          1 + (b.lines.length + (groupDiscounts b.lines).length + 7) / 8, s.now, s.msp.clock.isSet, false, [],
          .sale ⟨lane, (s.session lane).tillId, b.sequence, b.epoch, b.openTime, s.now, tender, basketTotal b.lines,
            bandTaxes s.itb.rates b.lines, b.mixed, sold.any (·.labelLag), sold.any (fun l => l.used == .openPrice)⟩
            b.lines (groupDiscounts b.lines)⟩ ∧
        s.keptAndSent src lane msg (.total lane msg (basketTotal b.lines) (bandTaxes s.itb.rates b.lines) s.jnl.append.seq b.sequence) t) ∧
    (1 + (b.lines.length + 7) / 8 ≤ s.jnl.space →
      ∃ t, exec (.laneCancel src lane msg mem) s = .next t ∧
        t = { s with
          tsu := { s.tsu with sessions := t.tsu.sessions, baskets := t.tsu.baskets, outbox := t.tsu.outbox }, jnl := t.jnl, msp := t.msp } ∧
        t.basket lane = closed ∧ (∀ l, laneOk l = true → l ≠ lane → t.session l = s.session l ∧ t.basket l = s.basket l) ∧
        t.jnl.records.getLast? = some ⟨s.jnl.append.seq, s.jnl.append.pos, 1 + (b.lines.length + 7) / 8, s.now, s.msp.clock.isSet,
          false, [], .void ⟨lane, (s.session lane).tillId, b.sequence, b.epoch, b.openTime, s.now, b.mixed⟩ b.lines⟩ ∧
        s.keptAndSent src lane msg (.answer lane msg 0 0 none false false 0 b.sequence) t)

/-- A numbered message whose number is the kept one is answered with the kept reply, and does nothing else (R43). -/
def Obligations.RepeatsGetTheKeptReply : Prop :=
  ∀ (src : HwAddr) (lane msg : Nat) (r : LaneMessage) (s : State),
    s.power = .running → s.tsu.serving = true → laneOk lane = true → (s.session lane).state.isPresent = true →
    (s.session lane).station = some src → (s.session lane).last = some ⟨msg, r⟩ →
    ∀ c : Instr, (c = .laneOpen src lane msg ∨ (∃ code q k mem, c = .laneAsk src lane msg code q k mem) ∨
      (∃ n, c = .laneVoid src lane msg n) ∨ (∃ k mem, c = .laneClose src lane msg k mem) ∨ (∃ mem, c = .laneCancel src lane msg mem)) →
      exec c s = .next (sendLane src [r] s)

/-! ### Requests that read -/

/-- Requests that read answer what stands. TILL-STATUS alone does more: it clears a set service flag, for which a SEEN is then owed
(R48, R59, R77, R100, R145, R156, R171, R186). -/
def Obligations.ReadingRequestsAnswerWhatStands : Prop :=
  ∀ (tag : Nat) (s : State), s.canTake = true →
    exec (.journalStatus tag true) s = .next (s.addReply tag .request (.ok (.journalStatus
      ⟨s.jnl.oldest, s.jnl.mark, s.jnl.append, s.jnl.held, s.jnl.reclaimable, s.jnl.unuploaded, s.jnl.free, s.jnl.records.length,
       (s.jnl.records.filter s.jnl.isAcknowledged).length, s.jnl.limit, s.jnl.highArmed, s.jnl.fullArmed, s.jnl.fullRefusals,
       (s.jnl.records.filter (·.damaged)).length⟩) [])) ∧
    (∀ a : LabelAddr, a.rail ≤ 1023 → a.slot ≤ 23 → ∃ v : LabelView,
      exec (.labelGet tag (some a)) s = .next (s.addReply tag .request (.ok (.label v) [])) ∧
      v.entry = s.lrc.entry a ∧ v.rail = s.lrc.rail a.rail ∧ v.interval = interval (s.lrc.rail a.rail).code ∧
      v.prices = (s.lrc.queue.filter fun q => q.reason == .price).length ∧
      v.binds = (s.lrc.queue.filter fun q => q.reason == .bind).length ∧
      v.templates = (s.lrc.queue.filter fun q => q.reason == .template).length ∧
      v.retryLimit = s.lrc.retryLimit ∧ v.presence = s.lrc.presence ∧ v.port = s.lrc.port ∧ v.stale = s.lrc.stale) ∧
    (∀ hw : Option HwAddr, (∀ h, hw = some h → isGroup h = false) → ∃ v : GuestView,
      exec (.guestGet tag (some hw)) s = .next (s.addReply tag .request (.ok (.guest v) [])) ∧
      v.session = hw.bind (fun h => s.guest h) ∧ v.isOpen = s.gat.isOpen ∧ v.idleLimit = s.gat.idleLimit ∧ v.portal = s.gat.portal ∧
      v.evictions = s.gat.evictions ∧ v.fullArmed = s.gat.fullArmed ∧ v.drops = s.gat.drops ∧
      v.census = ⟨s.gat.number .pending, s.gat.number .admitted, s.gat.number .idle, s.gat.number .throttled, s.gat.number .expired,
        s.gat.number .barred⟩) ∧
    (∃ v : UplinkView, exec (.uplinkStatus tag true) s = .next (s.addReply tag .request (.ok (.uplink v) [])) ∧
      v.day = s.uls.day ∧ v.night = s.uls.night ∧ v.inForce = s.uls.inForce ∧ v.holder = s.uls.holder ∧ v.allowance = s.uls.allowance ∧
      v.pay = ⟨s.uls.pay.frames.length, (s.uls.pay.frames.map (·.length)).sum, s.uls.pay.drops, s.uls.pay.sentFrames, s.uls.pay.sentBytes⟩ ∧
      v.throttledDrops = s.uls.throttledDrops ∧ v.counts = s.zfw.counts ∧ v.lanHeld = s.zfw.lanFifo.length ∧
      v.tillHeld = s.zfw.tillFifo.length ∧ v.guestHeld = s.zfw.guestFifo.length) ∧
    (∃ v : ExchangeView, exec (.exchangeStatus tag true) s = .next (s.addReply tag .request (.ok (.exchange v) [])) ∧
      v.session = s.xce.session ∧ v.staged = s.xce.staging.length ∧ v.blockSize = s.xce.blockSize ∧ v.counter = s.xce.counter ∧
      v.stagingBatch = s.xce.stagingBatch ∧ v.pendingBatch = s.itb.pendingBatch ∧ v.epoch = s.itb.epoch ∧ v.cutover = s.xce.cutover) ∧
    (∃ c : List Nat, exec (.identify tag true) s = .next (s.addReply tag .request (.ok (.identity ⟨19533, 4100, 1, c, 15344⟩) []))) ∧
    (∀ lane, laneOk lane = true →
      exec (.tillStatus tag (some lane)) s = .next ((s.setSession lane { s.session lane with
          service := false, seenOwed := (s.session lane).seenOwed || (s.session lane).service }).addReply tag .request
        (.ok (.tillStatus ⟨s.roster lane, s.session lane, s.basket lane, (s.basket lane).lines.length,
          ((s.basket lane).lines.filter (·.voided)).length, runningTotal (s.basket lane).lines, s.tsu.pollPeriod, s.tsu.window,
          s.tsu.hold, (s.tsu.baskets.toList.filter (·.isOpen)).length, s.tsu.malformed⟩) [])))

/-- ITEM-GET answers the record, and JOURNAL-READ one page; each check of a read that fails is kept, gives no value, and logs its fault
the first time only (R17, R22, R75, R76). -/
def Obligations.ReadsCheckWhatTheyRead : Prop :=
  ∀ (tag : Nat) (mem : MemFaults) (s : State), s.canTake = true →
    (∀ (code : Nat) (r : ItemRecord), codeOk code = true → s.item code = some r →
      (r.damaged = false → code ∉ mem.items → exec (.itemGet tag (some code) mem) s =
        .next (s.addReply tag .request (.ok (.item r s.itb.epoch s.itb.pendingBatch) []))) ∧
      (r.damaged = true → exec (.itemGet tag (some code) mem) s = .next (s.addReply tag .request
        (.ok (.item { r with current := none, previous := none } s.itb.epoch s.itb.pendingBatch) []))) ∧
      (r.damaged = false → code ∈ mem.items → exec (.itemGet tag (some code) mem) s =
        .next (((s.putItem { r with damaged := true }).logFault .memory 502 (.item code)).addReply tag .request
          (.ok (.item { r with damaged := true, current := none, previous := none } s.itb.epoch s.itb.pendingBatch) [])))) ∧
    (∀ (seq i : Nat) (r : JournalRecord), 0 < seq → s.jnl.records.find? (fun x => x.seq == seq) = some r → i < r.pages → i ≤ 50 →
      let fails : Bool := r.badPages.contains i || mem.pages.contains (r.seq, i)
      ∃ t, exec (.journalRead tag (some ⟨seq, some i⟩) mem) s = .next t ∧
        t = { s with jnl := { s.jnl with records := t.jnl.records }, msp := t.msp } ∧
        t.jnl.records.map (·.content) = s.jnl.records.map (·.content) ∧
        t.msp.replies = s.msp.replies ++ [⟨tag, .ok (.journalPage ⟨r.content.kind, r.seq, r.pages, r.time, r.clockSet, r.damaged || fails,
          if fails then (r.content.page r.damaged i).emptied else r.content.page r.damaged i, s.jnl.isAcknowledged r⟩) [], .request⟩] ∧
        t.msp.memory = (if fails ∧ r.damaged = false then s.msp.memory.log 503 s.now (.journalPage r.seq i) else s.msp.memory) ∧
        (t.jnl.records.find? (fun x => x.seq == seq)).map (·.damaged) = some (r.damaged || fails))

/-! ### The Sales Journal (04) -/

/-- An append that does not fit is answered FULL and counted, and the first is reported. One that fits reclaims acknowledged records, oldest
first, one at a time and only until the free pages are enough, takes the next sequence and position, and at 117,965 unuploaded pages reports
JOURNAL-HIGH once. An acknowledgement notice within the span moves the upload mark past every record that lies before its extent, and sets the
high-water flag again below 104,858 pages and the full-report flag at 51 pages of space; any other notice is ignored (R69 to R74). That a
reclaim checks page 0 of its record is log 10 (DESIGN CHOICE). -/
def Obligations.JournalReclaimsRefusesAndMovesItsMark : Prop :=
  ∀ (s : State),
    let after : JournalRecord → JournalPtr := fun r =>
      ⟨(r.pos + r.pages) % 131072, if r.seq < 4294967295 then r.seq + 1 else 1⟩
    (∀ (mem : MemFaults) (c : JournalContent), 131072 - s.jnl.unuploaded < c.pageCount →
      journalAppend mem c s = ({ s with
        jnl := { s.jnl with
          fullRefusals := if s.jnl.fullRefusals < 65535 then s.jnl.fullRefusals + 1 else 65535, fullArmed := false }
        msp := { s.msp with
          reports := if s.jnl.fullArmed then
            queueReport s.now (.journalFull c.kind c.pageCount s.jnl.unuploaded s.jnl.free) s.msp.reports else s.msp.reports } }, none)) ∧
    (∀ (mem : MemFaults) (c : JournalContent) (gone kept : List JournalRecord), c.pageCount ≤ 131072 - s.jnl.unuploaded →
      s.jnl.records = gone ++ kept →
      let oldest : List JournalRecord → JournalPtr := fun p => match p.getLast? with | some r => after r | none => s.jnl.oldest
      let room : List JournalRecord → Nat := fun p => 131072 - pagesBetween (oldest p) s.jnl.append
      (∀ p r q, gone = p ++ r :: q → room p < c.pageCount ∧ oldest p ≠ s.jnl.mark) →
      (c.pageCount ≤ room gone ∨ oldest gone = s.jnl.mark ∨ kept = []) →
      ∃ t, journalAppend mem c s = (t, some s.jnl.append.seq) ∧ t = { s with jnl := t.jnl, msp := t.msp } ∧
        t.jnl = { s.jnl with
          records := t.jnl.records, oldest := oldest gone, highArmed := t.jnl.highArmed
          append := ⟨(s.jnl.append.pos + c.pageCount) % 131072, if s.jnl.append.seq < 4294967295 then s.jnl.append.seq + 1 else 1⟩ } ∧
        t.jnl.records.map (fun r => (r.seq, r.pos, r.content)) =
          kept.map (fun r => (r.seq, r.pos, r.content)) ++ [(s.jnl.append.seq, s.jnl.append.pos, c)] ∧
        t.jnl.highArmed = (s.jnl.highArmed && decide (t.jnl.unuploaded < 117965)) ∧
        ((∀ r ∈ gone, r.damaged = true ∨ (0 ∉ r.badPages ∧ (r.seq, 0) ∉ mem.pages)) → t.msp = { s.msp with
          reports := if s.jnl.highArmed = true ∧ 117965 ≤ t.jnl.unuploaded then
            queueReport s.now (.journalHigh t.jnl.unuploaded t.jnl.free t.jnl.mark.seq) s.msp.reports else s.msp.reports })) ∧
    (∀ extent, s.jnl.limit = none → acknowledge extent s = s) ∧
    (∀ extent lim, s.jnl.limit = some lim →
      let pages := (extent + 131072 - s.jnl.mark.pos) % 131072
      (pagesBetween s.jnl.mark lim < pages → acknowledge extent s = s) ∧
      (pages ≤ pagesBetween s.jnl.mark lim → ∀ passed rest,
        s.jnl.records.dropWhile (fun r => r.seq != s.jnl.mark.seq) = passed ++ rest →
        (passed.map (·.pages)).sum ≤ pages → (∀ r, rest.head? = some r → pages < (passed.map (·.pages)).sum + r.pages) →
        let t := acknowledge extent s
        t = { s with jnl := { s.jnl with mark := t.jnl.mark, highArmed := t.jnl.highArmed, fullArmed := t.jnl.fullArmed } } ∧
        t.jnl.mark = (match passed.getLast? with | some r => after r | none => s.jnl.mark) ∧
        t.jnl.highArmed = (s.jnl.highArmed || decide (t.jnl.unuploaded < 104858)) ∧
        t.jnl.fullArmed = (s.jnl.fullArmed || decide (51 ≤ 131072 - t.jnl.unuploaded))))

/-! ### Labels (05) -/

/-- LABEL-ADD of a new address makes an entry that owes BIND and joins the queue; LABEL-BIND of one also joins it to its item, and of a
label bound elsewhere moves it; the items' counts and previous records follow (R6 to R8, R79, R84, R96, R97). -/
def Obligations.LabelAddAndBindJoinTheQueue : Prop :=
  ∀ (tag : Nat) (a : LabelAddr) (s : State), s.canTake = true → a.rail ≤ 1023 → a.slot ≤ 23 →
    (∀ n, n ≤ 63 → s.tps.holds n = true → s.lrc.entry a = none →
      ∃ t, exec (.labelAdd tag (some ⟨a, some n⟩)) s = .next t ∧
        t = { s with
          lrc := { s.lrc with
            directory := t.lrc.directory, queue := s.lrc.queue ++ [⟨a, .bind, .first, s.now, s.lrc.nextSerial⟩]
            nextSerial := s.lrc.nextSerial + 1 }
          msp := { s.msp with replies := s.msp.replies ++ [⟨tag, .ok .empty [], .request⟩] } } ∧
        t.lrc.entry a = some ⟨a, none, n, .new, none, none, none, false, some .bind, none, none, 0, 0, none, false, none⟩ ∧
        (∀ b, addrKey b ≠ addrKey a → t.lrc.entry b = s.lrc.entry b)) ∧
    (∀ n e, n ≤ 63 → s.tps.holds n = true → s.lrc.entry a = some e →
      ∃ t e', exec (.labelAdd tag (some ⟨a, some n⟩)) s = .next t ∧
        t = { s with
          lrc := { s.lrc with directory := t.lrc.directory, queue := t.lrc.queue, nextSerial := t.lrc.nextSerial }
          msp := { s.msp with replies := s.msp.replies ++ [⟨tag, .ok .empty [.existed], .request⟩] } } ∧
        t.lrc.entry a = some e' ∧ e'.template = n ∧ e'.item = e.item ∧ e'.confirmed = e.confirmed ∧ e'.excluded = e.excluded ∧
        (e.template = n → t.lrc = s.lrc)) ∧
    (∀ n code r, n ≤ 63 → s.tps.holds n = true → codeOk code = true → s.item code = some r → r.labels.length < 4 →
      r.current.isSome = true → s.lrc.entry a = none →
      ∃ t r', exec (.labelBind tag (some ⟨a, code, some n⟩)) s = .next t ∧
        t = { s with
          itb := { s.itb with items := t.itb.items }
          lrc := { s.lrc with
            directory := t.lrc.directory, queue := s.lrc.queue ++ [⟨a, .bind, .first, s.now, s.lrc.nextSerial⟩]
            nextSerial := s.lrc.nextSerial + 1 }
          msp := { s.msp with replies := s.msp.replies ++ [⟨tag, .ok (.number 1 r'.count) [], .request⟩] } } ∧
        t.lrc.entry a = some ⟨a, some code, n, .new, none, none, none, false, some .bind, none, none, 0, 0, none, false, none⟩ ∧
        t.item code = some r' ∧ (∀ c, c ≠ code → t.item c = s.item c) ∧
        r'.labels = r.labels ++ [⟨a, none, false⟩] ∧ r'.count = r'.pendingCount ∧ 0 < r'.count ∧ r'.current = r.current ∧
        r'.previous = (if r.count = 0 then r.current.map (fun c => ⟨c, r.version⟩) else r.previous)) ∧
    (∀ code old r o e, codeOk code = true → s.item code = some r → r.labels.length < 4 → r.current.isSome = true →
      s.tps.holds 0 = true → s.lrc.entry a = some e → e.addr = a → e.item = some old → old ≠ code → s.item old = some o →
      ∃ t r' o' e', exec (.labelBind tag (some ⟨a, code, none⟩)) s = .next t ∧
        t = { s with
          itb := { s.itb with items := t.itb.items }
          lrc := { s.lrc with directory := t.lrc.directory, queue := t.lrc.queue, nextSerial := t.lrc.nextSerial }
          msp := { s.msp with replies := s.msp.replies ++ [⟨tag, .ok (.number 1 r'.count) [], .request⟩] } } ∧
        t.item code = some r' ∧ t.item old = some o' ∧ (∀ c, c ≠ code → c ≠ old → t.item c = s.item c) ∧
        r'.labels = r.labels ++ [⟨a, none, false⟩] ∧ r'.count = r'.pendingCount ∧
        o'.labels = o.labels.filter (fun l => l.addr != a) ∧ o'.count = o'.pendingCount ∧
        t.lrc.entry a = some e' ∧ e'.item = some code ∧ e'.template = e.template ∧ e'.confirmed = none ∧ e'.excluded = false)

/-- LABEL-UNBIND takes a label from its item and keeps its template; LABEL-REMOVE takes its entry and its place in the queue too; a label with
no item cannot be unbound; an address with no entry is not found. RAIL-SET gives every rail of a range its code, and no other rail;
LABEL-PARAMS sets both values, clamped (R6, R86, R98, R99, R101, R102). -/
def Obligations.UnbindRemoveRailsAndParams : Prop :=
  (∀ (tag : Nat) (a : LabelAddr) (s : State), s.canTake = true → a.rail ≤ 1023 → a.slot ≤ 23 →
     (s.lrc.entry a = none →
       exec (.labelUnbind tag (some a)) s = .next (s.addReply tag .request (.refused .notFound (.missing .label))) ∧
       exec (.labelRemove tag (some a)) s = .next (s.addReply tag .request (.refused .notFound (.missing .label)))) ∧
     (∀ e, s.lrc.entry a = some e → e.addr = a →
       (e.item = none → exec (.labelUnbind tag (some a)) s = .next (s.addReply tag .request (.refused .state .noDetail)) ∧
         ∃ t, exec (.labelRemove tag (some a)) s = .next t ∧ t.itb = s.itb ∧ t.lrc.entry a = none) ∧
       (∀ code r, e.item = some code → s.item code = some r →
         ∃ t u r', exec (.labelUnbind tag (some a)) s = .next t ∧ exec (.labelRemove tag (some a)) s = .next u ∧
           t = { s with
             itb := { s.itb with items := t.itb.items }
             lrc := { s.lrc with directory := t.lrc.directory, queue := t.lrc.queue, nextSerial := t.lrc.nextSerial }
             msp := { s.msp with replies := s.msp.replies ++ [⟨tag, .ok .empty [], .request⟩] } } ∧
           u = { t with lrc := { s.lrc with directory := u.lrc.directory, queue := s.lrc.queue.filter (fun q => q.addr != a) } } ∧
           t.item code = some r' ∧ (∀ c, c ≠ code → t.item c = s.item c) ∧
           r'.labels = r.labels.filter (fun l => l.addr != a) ∧ r'.count = r'.pendingCount ∧ (r'.count = 0 → r'.previous = none) ∧
           (∃ e', t.lrc.entry a = some e' ∧ e'.item = none ∧ e'.excluded = false ∧ e'.template = e.template ∧ e'.confirmed = e.confirmed) ∧
           u.lrc.entry a = none ∧
           (∀ b, addrKey b ≠ addrKey a → t.lrc.entry b = s.lrc.entry b ∧ u.lrc.entry b = s.lrc.entry b)))) ∧
  (∀ (tag : Nat) (s : State), s.canTake = true →
     (∀ a : RailSetArgs, a.first ≤ a.last → a.last ≤ 1023 → a.code ≤ 255 →
       ∃ t, exec (.railSet tag (some a)) s = .next t ∧
         t = { s with
           lrc := { s.lrc with rails := t.lrc.rails }
           msp := { s.msp with replies := s.msp.replies ++ [⟨tag, .ok (.number 2 (a.last - a.first + 1)) [], .request⟩] } } ∧
         ∀ n, n ≤ 1023 → t.lrc.rail n =
           if a.first ≤ n ∧ n ≤ a.last then { s.lrc.rail n with code := a.code } else s.lrc.rail n) ∧
     (∀ a : RailSetArgs, a.last < a.first ∨ 1023 < a.last ∨ 255 < a.code →
       exec (.railSet tag (some a)) s = .next (s.addReply tag .request (.refused .badField .noDetail))) ∧
     (∀ a : LabelParamsArgs, exec (.labelParams tag (some a)) s = .next ({ s with lrc := { s.lrc with
         retryLimit := if a.retry < 1 then 1 else if 15 < a.retry then 15 else a.retry
         presence := if a.presence < 3600 then 3600 else if 86400 < a.presence then 86400 else a.presence } }.addReply tag .request
       (.ok .empty (if a.retry < 1 ∨ 15 < a.retry ∨ a.presence < 3600 ∨ 86400 < a.presence then [.clamped] else [])))))

/-- A radio frame grants the eligible queue entries in slot order, at most 32: those in a wake's window, not on the polled rail and not sent in
that window before, by reason PRICE, BIND, TEMPLATE, and in each FIRST and RETRY alternately. Each granted label is SENT, out of the queue,
with the update's tag and its window's wake as last send, and the update shows what its item's current gives, empty figures for a DAMAGED
record or one with no current; every other label is as it was (R82, R88, R89). -/
def Obligations.RadioFrameSendsGrantedLabels : Prop :=
  ∀ (mem : MemFaults) (s : State), s.power = .running → s.lrc.frameDue = true → s.lrc.frame = none →
    let poll := s.lrc.choosePoll s.now
    let wake : QueueEntry → Option Nat := fun q => windowWake (s.lrc.rail q.addr.rail).code q.addr.rail s.now
    let eligible := s.lrc.queue.filter fun q => match wake q, s.lrc.entry q.addr with
      | some w, some e => decide (poll ≠ some q.addr.rail) && decide (e.lastSend.map (·.wake) ≠ some w)
      | _, _ => false
    let turn : Reason → List QueueEntry := fun r =>
      alternate (eligible.filter fun q => q.reason == r && q.kind == .first) (eligible.filter fun q => q.reason == r && q.kind == .retry)
    ∃ t gs, exec (.radioFrame mem) s = .next t ∧
      t = { s with
        itb := { s.itb with items := t.itb.items }, msp := t.msp
        lrc := { s.lrc with
          directory := t.lrc.directory, queue := t.lrc.queue, frameDue := false, frame := some ⟨s.now, poll, gs, false, false⟩ }
        out := { s.out with radio := some ⟨s.now, poll, gs.map (·.update)⟩ } } ∧
      gs.map (·.entry) = (turn .price ++ turn .bind ++ turn .template).take 32 ∧
      (∀ q ∈ t.lrc.queue, q ∈ s.lrc.queue) ∧
      ((s.lrc.queue.map fun q => addrKey q.addr).Nodup → ∀ g ∈ gs, g.update.addr = g.addr ∧ (∀ q ∈ t.lrc.queue, q.addr ≠ g.addr) ∧
        ∃ e e' w, s.lrc.entry g.entry.addr = some e ∧ e.addr = g.addr ∧ wake g.entry = some w ∧
          g.oldState = e.state ∧ g.oldSend = e.lastSend ∧
          t.lrc.entry g.addr = some e' ∧ e' = { e with state := .sent, lastSend := some ⟨g.update.tag, w⟩ } ∧
          g.update.tag.revision = (s.tps.slot e.template).revision ∧ g.update.tag.stamp = s.tps.stamp e.addr.rail ∧
          g.update.elements = s.tps.resolve e.template e.addr.rail ∧
          (e.item = none → g.update.figures = none ∧ g.update.desc = none ∧ g.update.tag.version = none) ∧
          (∀ c r, e.item = some c → s.item c = some r → g.update.tag.version = some r.version ∧
            (∀ p, r.current = some p → r.damaged = false → c ∉ mem.items →
              g.update.figures = some (labelFigures p) ∧ g.update.desc = some r.desc) ∧
            (r.current = none ∨ r.damaged = true ∨ c ∈ mem.items → g.update.figures = none ∧ g.update.desc = none))) ∧
      (∀ a, (∀ g ∈ gs, addrKey g.addr ≠ addrKey a) → t.lrc.entry a = s.lrc.entry a)

/-- LABEL_ACK: with no frame in flight, an answer that could not be decoded, or one that does not match the label of its slot (no label
granted there, one no longer SENT, or another tag than its last send's), one stale answer and nothing else of the label; an answer that
matches confirms its label, keeps the item's count true, and takes it out of SENT (R10, R90, R91). That a battery level above 15 is recorded
as it came (log 56), and that the first answer tells of the transceiver's acceptance (log 19), is the model's choice. The reason with which a
label whose revision or stamps are out of date joins the queue again is left out. -/
def Obligations.AcknowledgementConfirmsItsLabel : Prop :=
  ∀ (slot : Nat) (s : State), s.power = .running →
    (∀ answer, s.lrc.frame = none →
      exec (.labelAck slot answer) s = .next { s with lrc := { s.lrc with stale := bump 65535 s.lrc.stale } }) ∧
    (∀ f, s.lrc.frame = some f → exec (.labelAck slot none) s =
      .next { s with lrc := { s.lrc with frame := some { f with accepted := true }, port := .ok, stale := bump 65535 s.lrc.stale } }) ∧
    (∀ f a, s.lrc.frame = some f → (∀ g e, f.grants[slot]? = some g → s.lrc.entry g.addr = some e →
        e.state ≠ .sent ∨ ∀ l, e.lastSend = some l → l.tag ≠ a.tag) → exec (.labelAck slot (some a)) s =
      .next { s with lrc := { s.lrc with frame := some { f with accepted := true }, port := .ok, stale := bump 65535 s.lrc.stale } }) ∧
    (∀ f g e a w, s.lrc.frame = some f → f.grants[slot]? = some g → s.lrc.entry g.addr = some e → e.state = .sent →
      e.lastSend = some ⟨a.tag, w⟩ →
      ∃ t e', exec (.labelAck slot (some a)) s = .next t ∧
        t = { s with
          itb := { s.itb with items := t.itb.items }, msp := { s.msp with reports := t.msp.reports }
          lrc := { s.lrc with
            directory := t.lrc.directory, queue := t.lrc.queue, nextSerial := t.lrc.nextSerial
            frame := some { f with accepted := true }, port := .ok } } ∧
        t.lrc.entry g.addr = some e' ∧ e'.confirmed = a.tag.version ∧ e'.revision = some a.tag.revision ∧ e'.stamp = some a.tag.stamp ∧
        e'.retries = 0 ∧ e'.missed = 0 ∧ e'.lastHeard = some s.now ∧ e'.battery = some a.battery ∧ e'.requeue = none ∧
        (e'.state = .idle ∨ e'.state = .queued) ∧
        (∀ r, e.requeue = some r → e'.state = .queued ∧ e'.owed = some r) ∧
        (e'.state = .idle → t.lrc.queue = s.lrc.queue ∧ e'.owed = none) ∧
        (∀ c v r, e.item = some c → a.tag.version = some v → s.item c = some r → e.addr ∈ r.labels.map (·.addr) →
          ∃ r', t.item c = some r' ∧ r'.count = r'.pendingCount ∧
            r'.labels = r.labels.map (fun l => if l.addr = e.addr then ⟨e.addr, some v, l.excluded && v != r.version⟩ else l)) ∧
        t.msp.reports = (if a.battery ≤ 2 ∧ e.lowReported = false then
          queueReport s.now (.labelBattery e.addr e.item a.battery) s.msp.reports else s.msp.reports))

/-- The end of a frame leaves no label SENT: one not heard goes to MISSING at the retry limit, else back to the queue; a failed hand-over
puts every granted label back as it was; a poll answer is kept on its rail and heard labels are present again (R83, R92, R95). -/
def Obligations.FrameEndsLeaveNoLabelSent : Prop :=
  (∀ (f : FrameInFlight) (s : State), s.power = .running → s.lrc.frame = some f →
    ∃ t, exec .radioFrameEnd s = .next t ∧
      t = { s with
        lrc := { s.lrc with directory := t.lrc.directory, queue := t.lrc.queue, nextSerial := t.lrc.nextSerial, frame := none, port := .ok }
        msp := { s.msp with reports := t.msp.reports } } ∧
      (∀ a e, t.lrc.entry a = some e → e.state ≠ .sent) ∧
      (∀ a e, s.lrc.entry a = some e → e.state ≠ .sent → t.lrc.entry a = some e) ∧
      (∀ a e l, s.lrc.entry a = some e → e.state = .sent → e.lastSend = some l →
        ∃ e', t.lrc.entry a = some e' ∧ e'.retries = e.retries + 1 ∧ e'.requeue = none ∧
          e'.state = (if s.lrc.retryLimit ≤ e.retries + 1 then .missing else .queued))) ∧
  (∀ (x : HandoverFailure) (f : FrameInFlight) (s : State), s.power = .running → s.lrc.frame = some f → f.accepted = false →
    (f.grants.map fun g => addrKey g.addr).Nodup →
    ∃ t, exec (.radioHandoverFail x) s = .next t ∧
      t = { s with
        lrc := { s.lrc with
          directory := t.lrc.directory, queue := t.lrc.queue, frame := none
          port := match x with | .noAnswer => .noAnswer | .rejected _ => .rejecting }
        msp := t.msp } ∧
      (∀ g ∈ f.grants, ∀ e, s.lrc.entry g.addr = some e → e.state = .sent →
        ∃ e', t.lrc.entry g.addr = some e' ∧ e'.state = g.oldState ∧ e'.lastSend = g.oldSend ∧ e'.requeue = none ∧ e'.item = e.item ∧
          (e.requeue = none → e'.owed = e.owed)) ∧
      t.msp = (if s.lrc.port = t.lrc.port then s.msp else
        (s.logFault .label (match x with | .noAnswer => 201 | .rejected _ => 202)
          (match x with | .noAnswer => .radioSilent f.number | .rejected c => .radioRejected f.number c)).msp)) ∧
  (∀ (bitmap : BitVec 24) (f : FrameInFlight) (n : Nat) (s : State), s.power = .running → s.lrc.frame = some f → f.rail = some n →
    n ≤ 1023 → f.polled = false → s.labelsOrdered →
    ∃ t, exec (.railPollAnswer bitmap) s = .next t ∧
      t.lrc.frame = some { f with accepted := true, polled := true } ∧ t.lrc.port = .ok ∧
      t.lrc.rail n = { s.lrc.rail n with lastPoll := some f.number, bitmap := bitmap } ∧
      (∀ a e, s.lrc.entry a = some e → e.addr.rail ≠ n ∨ e.state = .sent → t.lrc.entry a = some e) ∧
      (∀ a e, s.lrc.entry a = some e → e.addr.rail = n → e.state ≠ .sent → bitmap.getLsbD e.addr.slot = true →
        ∃ e', t.lrc.entry a = some e' ∧ e'.missed = 0 ∧ e'.lastHeard = some s.now ∧ e'.state ≠ .missing) ∧
      (∀ a e, s.lrc.entry a = some e → e.addr.rail = n → e.state ≠ .sent → e.state ≠ .missing →
        bitmap.getLsbD e.addr.slot = false → ∃ e', t.lrc.entry a = some e' ∧ e'.missed = e.missed + 1 ∧
          e'.state = (if 3 ≤ e.missed + 1 then .missing else e.state)))

/-! ### Templates (06) -/

/-- A definition: opened by TEMPLATE-BEGIN in place of any other, grown by TEMPLATE-ELEMENT, closed by TEMPLATE-CANCEL or its expiry with
every slot's published content kept, and closed by TEMPLATE-END, which publishes exactly what passes the checks (R104, R106 to R111). -/
def Obligations.DefinitionsOpenGrowAndPublish : Prop :=
  ∀ (tag : Nat) (s : State),
    (∀ n, s.canTake = true → n ≤ 63 → s.tps.walking n = false →
      ∃ t, exec (.templateBegin tag (some n)) s = .next t ∧
        t = { s with
          tps := { s.tps with slots := t.tps.slots, definition := some ⟨n, [], s.now, s.elapsed + 60⟩ }
          msp := { s.msp with replies := s.msp.replies ++ [⟨tag, .ok .empty (match s.tps.definition with
            | some d => [.cancelledOther d.slot] | none => []), .request⟩] } } ∧
        (t.tps.slot n).state = .defining ∧
        (∀ m, m ≤ 63 → (t.tps.slot m).content = (s.tps.slot m).content ∧ (t.tps.slot m).revision = (s.tps.slot m).revision ∧
          (t.tps.slot m).permanence = (s.tps.slot m).permanence) ∧
        (∀ d, s.tps.definition = some d → d.slot ≤ 63 → d.slot ≠ n →
          (t.tps.slot d.slot).state = (if (s.tps.slot d.slot).content.isSome then .defined else .empty))) ∧
    (∀ d, s.canTake = true → s.tps.definition = some d →
      (∀ a e, elementOf a = some e → d.elements.length < 16 → exec (.templateElement tag (some a)) s =
        .next ({ s with tps := { s.tps with
          definition := some ⟨d.slot, d.elements ++ [e], s.now, s.elapsed + 60⟩ } }.addReply tag .request
            (.ok (.number 1 (d.elements.length + 1)) []))) ∧
      (∃ t, exec (.templateCancel tag true) s = .next t ∧
        t = { s with
          tps := { s.tps with slots := t.tps.slots, definition := none }
          msp := { s.msp with replies := s.msp.replies ++ [⟨tag, .ok .empty [], .request⟩] } } ∧
        ∀ m, m ≤ 63 → (t.tps.slot m).content = (s.tps.slot m).content) ∧
      (d.slot ≤ 63 → ∃ t, exec (.templateEnd tag true) s = .next t ∧ t.tps.definition = none ∧
        t = { s with tps := { s.tps with slots := t.tps.slots, definition := none, walks := t.tps.walks }, msp := t.msp } ∧
        (d.elements ≠ [] → hasLoop (s.tps.contentsWith d) = false → hasDeepChain (s.tps.contentsWith d) = false →
          t.tps.slot d.slot = ⟨.defined, some d.elements, if (s.tps.slot d.slot).revision < 65535 then (s.tps.slot d.slot).revision + 1 else 0,
            if (s.tps.slot d.slot).content.isSome then (s.tps.slot d.slot).permanence else some .temporary⟩ ∧
          (∀ m, m ≠ d.slot → t.tps.slot m = s.tps.slot m) ∧
          t.tps.walks = s.tps.walks ++ [⟨.publish, d.slot, (t.tps.slot d.slot).revision, none, 0⟩] ∧
          t.msp.replies = s.msp.replies ++ [⟨tag, .ok (.number 2 (t.tps.slot d.slot).revision) [], .request⟩]) ∧
        (∀ r : RefuseReason,
          (d.elements = [] ∧ r = .badRecord) ∨
          (d.elements ≠ [] ∧ hasLoop (s.tps.contentsWith d) = true ∧ r = .callLoop) ∨
          (d.elements ≠ [] ∧ hasLoop (s.tps.contentsWith d) = false ∧ hasDeepChain (s.tps.contentsWith d) = true ∧ r = .callDepth) →
          (∀ m, m ≤ 63 → (t.tps.slot m).content = (s.tps.slot m).content) ∧ t.tps.walks = s.tps.walks ∧
          t.msp.replies = s.msp.replies ++ [⟨tag, .refused r .noDetail, .request⟩]))) ∧
    (∀ d, s.power = .running → s.tps.definition = some d → d.deadline ≤ s.elapsed →
      ∃ t, exec .definitionTimeout s = .next t ∧
        t = { s with
          tps := { s.tps with slots := t.tps.slots, definition := none }
          msp := { s.msp with reports := queueReport s.now (.templateCancelled d.slot d.elements.length .timeout) s.msp.reports } } ∧
        ∀ m, m ≤ 63 → (t.tps.slot m).content = (s.tps.slot m).content)

/-- TEMPLATE-DELETE empties a slot, keeps its revision, moves its labels to template 0, clears its overlays and lists a walk;
TEMPLATE-KEEP and TEMPLATE-TEMP set permanence alone; slot 0 is never deleted and never made TEMPORARY (R106, R112). -/
def Obligations.DeleteAndPermanence : Prop :=
  ∀ (tag n : Nat) (s : State), s.canTake = true → n ≤ 63 → s.tps.holds n = true →
    (exec (.templateKeep tag (some n)) s = .next ({ s with
      tps := { s.tps with slots := s.tps.slots.setIfInBounds n { s.tps.slot n with permanence := some .permanent } } }.addReply tag .request
        (.ok .empty []))) ∧
    (n = 0 → exec (.templateTemp tag (some n)) s = .next (s.addReply tag .request (.refused .badField .noDetail)) ∧
      exec (.templateDelete tag (some n)) s = .next (s.addReply tag .request (.refused .badField .noDetail))) ∧
    (n ≠ 0 → exec (.templateTemp tag (some n)) s = .next ({ s with
      tps := { s.tps with slots := s.tps.slots.setIfInBounds n { s.tps.slot n with permanence := some .temporary } } }.addReply tag .request
        (.ok .empty []))) ∧
    (n ≠ 0 → s.tps.walking n = true →
      exec (.templateDelete tag (some n)) s = .next (s.addReply tag .request (.refused .busy .noDetail))) ∧
    (n ≠ 0 → s.tps.walking n = false → s.labelsOrdered →
      ∃ t, exec (.templateDelete tag (some n)) s = .next t ∧
        t = { s with
          tps := { s.tps with
            slots := t.tps.slots, definition := t.tps.definition, overlays := t.tps.overlays
            walks := s.tps.walks ++ [⟨.delete, n, (s.tps.slot n).revision, none, 0⟩] }
          lrc := { s.lrc with directory := t.lrc.directory, queue := t.lrc.queue, nextSerial := t.lrc.nextSerial }
          msp := { s.msp with replies := s.msp.replies ++ [⟨tag, .ok (.number 2 (s.lrc.directory.filter fun e => e.template == n).length)
            (if s.tps.definition.map (·.slot) = some n then [.cancelledOther n] else []), .request⟩] } } ∧
        t.tps.slot n = ⟨.empty, none, (s.tps.slot n).revision, none⟩ ∧
        (∀ m, m ≠ n → t.tps.slot m = s.tps.slot m) ∧
        t.tps.definition = (if s.tps.definition.map (·.slot) = some n then none else s.tps.definition) ∧
        (∀ i, i ≤ 3 → t.tps.overlay i = if (s.tps.overlay i).map (·.slot) = some n then none else s.tps.overlay i) ∧
        (∀ a e, s.lrc.entry a = some e → ∃ e', t.lrc.entry a = some e' ∧ e'.item = e.item ∧
          e'.template = (if e.template = n then 0 else e.template)))

/-- OVERLAY-SET and OVERLAY-CLEAR write one entry and give every label on the range a template cause; a walk's step visits one label, in
ascending order, and the last ends it with TEMPLATE-DONE (R87, R111, R113, R114). -/
def Obligations.OverlaysAndWalksNoticeLabels : Prop :=
  (∀ (tag : Nat) (a : OverlayArgs) (s : State), s.canTake = true → a.overlay ≤ 3 → a.slot ≤ 63 → a.first ≤ a.last → a.last ≤ 1023 →
    s.tps.holds a.slot = true → s.labelsOrdered →
    let stamp := if s.tps.overlayCounter < 4294967295 then s.tps.overlayCounter + 1 else 1
    ∃ t, exec (.overlaySet tag (some a)) s = .next t ∧
      t = { s with
        tps := { s.tps with
          overlayCounter := stamp, overlays := s.tps.overlays.setIfInBounds a.overlay (some ⟨a.slot, a.first, a.last, stamp⟩) }
        lrc := { s.lrc with directory := t.lrc.directory, queue := t.lrc.queue, nextSerial := t.lrc.nextSerial }
        msp := { s.msp with replies := s.msp.replies ++ [⟨tag, .ok (.number 4 stamp) [], .request⟩] } } ∧
      (∀ b e, s.lrc.entry b = some e → e.state = .idle → a.first ≤ e.addr.rail → e.addr.rail ≤ a.last →
        ∃ e', t.lrc.entry b = some e' ∧ e'.state = .queued ∧ e'.owed = some .template) ∧
      (∀ b e, s.lrc.entry b = some e → ¬(a.first ≤ e.addr.rail ∧ e.addr.rail ≤ a.last) →
        (∀ o, s.tps.overlay a.overlay = some o → ¬(o.first ≤ e.addr.rail ∧ e.addr.rail ≤ o.last)) → t.lrc.entry b = some e)) ∧
  (∀ (tag n : Nat) (s : State), s.canTake = true → n ≤ 3 →
    (s.tps.overlay n = none → exec (.overlayClear tag (some n)) s = .next (s.addReply tag .request (.ok .empty []))) ∧
    (∀ o, s.tps.overlay n = some o → s.labelsOrdered →
      ∃ t, exec (.overlayClear tag (some n)) s = .next t ∧
        t = { s with
          tps := { s.tps with overlays := s.tps.overlays.setIfInBounds n none }
          lrc := { s.lrc with directory := t.lrc.directory, queue := t.lrc.queue, nextSerial := t.lrc.nextSerial }
          msp := { s.msp with replies := s.msp.replies ++ [⟨tag, .ok .empty [], .request⟩] } } ∧
        (∀ b e, s.lrc.entry b = some e → e.state = .idle → o.first ≤ e.addr.rail → e.addr.rail ≤ o.last →
          ∃ e', t.lrc.entry b = some e' ∧ e'.state = .queued ∧ e'.owed = some .template) ∧
        (∀ b e, s.lrc.entry b = some e → ¬(o.first ≤ e.addr.rail ∧ e.addr.rail ≤ o.last) → t.lrc.entry b = some e))) ∧
  (∀ (w : WalkEntry) (ws : List WalkEntry) (s : State), s.power = .running → s.tps.walks = w :: ws → s.labelsOrdered →
    let next := s.lrc.directory.find? (fun e => match w.pos with | none => true | some p => decide (p < e.key))
    let noticed := fun e : LabelEntry => if s.tps.depends w.slot e then w.noticed + 1 else w.noticed
    ∃ t, exec .templateWalkStep s = .next t ∧
      t = { s with
        tps := { s.tps with walks := t.tps.walks }, msp := { s.msp with reports := t.msp.reports }
        lrc := { s.lrc with directory := t.lrc.directory, queue := t.lrc.queue, nextSerial := t.lrc.nextSerial } } ∧
      (next = none → t.tps.walks = ws ∧ t.lrc = s.lrc ∧
        t.msp.reports = queueReport s.now (.templateDone w.kind w.slot w.revision w.noticed .complete) s.msp.reports) ∧
      (∀ e, next = some e →
        (s.tps.depends w.slot e = false → t.lrc = s.lrc) ∧
        (s.tps.depends w.slot e = true → t.lrc = s.lrc.cause s.now .template e.addr) ∧
        ((∃ x ∈ s.lrc.directory, e.key < x.key) →
          t.tps.walks = { w with pos := some e.key, noticed := noticed e } :: ws ∧ t.msp.reports = s.msp.reports) ∧
        ((∀ x ∈ s.lrc.directory, x.key ≤ e.key) → t.tps.walks = ws ∧
          t.msp.reports = queueReport s.now (.templateDone w.kind w.slot w.revision (noticed e) .complete) s.msp.reports)))

/-! ### Zones, guests and the uplink (07 to 09) -/

/-- RANGE-SET, RANGE-CLEAR, POLICY-SET, HINT-SET, PORTAL-SET and PROFILE-SET write one entry, cell, row or profile, clamped where clamping is the
rule, and most answer it before and after; a claim held elsewhere, an open session's peer, a fixed cell and a portal that does not stand are
refused (R122, R127 to R129, R131, R132, R150, R155). HINT-SET numbers its zones as R122 does (log 22). -/
def Obligations.RoutingTablesAreWrittenEntryByEntry : Prop :=
  ∀ (tag : Nat) (s : State), s.canTake = true →
    (∀ (a : RangeArgs) (z : RangeZone), a.index ≤ 31 → rangeZoneOf a.zone = some z → (a.peer = true → z = .headoffice) →
      (a.claim = true → z = .payment) → maskOk a.mask = true → a.base &&& a.mask = a.base →
      ((∀ j, j ≤ 31 → j ≠ a.index → (a.claim = true → (s.zfw.range j).claim = false) ∧ (a.peer = true → (s.zfw.range j).peer = false)) →
        s.xce.session.state = .idle →
        exec (.rangeSet tag (some a)) s = .next ({ s with zfw := { s.zfw with
          ranges := s.zfw.ranges.setIfInBounds a.index ⟨a.base, a.mask, a.enable, z, a.peer, a.claim⟩ } }.addReply tag .request
            (.ok (.range (s.zfw.range a.index) ⟨a.base, a.mask, a.enable, z, a.peer, a.claim⟩) []))) ∧
      (∀ j, a.claim = true → j ≤ 31 → j ≠ a.index → (s.zfw.range j).claim = true →
        (∀ k, k ≤ 31 → (s.zfw.range k).claim = true → k = j) →
        exec (.rangeSet tag (some a)) s = .next (s.addReply tag .request (.refused .claimHeld (.index j))))) ∧
    (∀ i, i ≤ 31 →
      ((s.zfw.range i).peer = true ∧ s.xce.session.state ≠ .idle →
        exec (.rangeClear tag (some i)) s = .next (s.addReply tag .request (.refused .state .noDetail))) ∧
      ((s.zfw.range i).peer = false ∨ s.xce.session.state = .idle →
        exec (.rangeClear tag (some i)) s = .next ({ s with zfw := { s.zfw with
          ranges := s.zfw.ranges.setIfInBounds i ⟨0, 0, false, .store, false, false⟩ } }.addReply tag .request
            (.ok (.range (s.zfw.range i) ⟨0, 0, false, .store, false, false⟩) [])))) ∧
    (∀ (a : PolicyArgs) (src dst : Zone) (v : Policy), zoneOf a.src = some src → zoneOf a.dst = some dst → policyValueOf a.value = some v →
      (fixedCell src dst = true ∨ (v = .paymentOnly ∧ ¬(src = .till ∧ dst = .payment) ∧ ¬(src = .payment ∧ dst = .till)) →
        exec (.policySet tag (some a)) s = .next (s.addReply tag .request (.refused .badField .noDetail))) ∧
      (fixedCell src dst = false → (v = .paymentOnly → (src = .till ∧ dst = .payment) ∨ (src = .payment ∧ dst = .till)) →
        ∃ t, exec (.policySet tag (some a)) s = .next t ∧
          t = { s with
            zfw := { s.zfw with policy := t.zfw.policy }
            msp := { s.msp with replies := s.msp.replies ++ [⟨tag, .ok (.policy (s.zfw.cell src dst) v) [], .request⟩] } } ∧
          t.zfw.cell src dst = v ∧ ∀ x y, ¬(x = src ∧ y = dst) → t.zfw.cell x y = s.zfw.cell x y)) ∧
    (∀ (a : ProfileArgs) (n : ProfileName), profileNameOf a.profile = some n →
      let fit := fun x : Nat => if x < 1514 then 1514 else if 65535 < x then 65535 else x
      let p : Profile := ⟨fit a.ctrl, fit a.store, fit a.exch, fit a.guest⟩
      exec (.profileSet tag (some a)) s = .next ({ s with uls := { s.uls with
          day := if n = ProfileName.day then p else s.uls.day, night := if n = ProfileName.night then p else s.uls.night } }.addReply tag .request
        (.ok (.profile (if n = ProfileName.day then s.uls.day else s.uls.night) p) (if p = (⟨a.ctrl, a.store, a.exch, a.guest⟩ : Profile) then [] else [.clamped])))) ∧
    (∀ (a : HintArgs) (src dst : Zone) (p i b c : HintClass), zoneOf a.src = some src → zoneOf a.dst = some dst →
      hintClassOf a.payment = some p → hintClassOf a.interactive = some i → hintClassOf a.bulk = some b → hintClassOf a.control = some c →
      (src = .store ∨ src = .till) → (dst = .headoffice ∨ dst = .payment ∨ dst = .internet) →
      ∃ t, exec (.hintSet tag (some a)) s = .next t ∧
        t = { s with zfw := { s.zfw with hints := t.zfw.hints }, msp := { s.msp with replies := t.msp.replies } } ∧
        (∀ k, (∀ x ∈ s.zfw.kinds.toList, x = none) → t.zfw.classOf src dst k = some b.toClass) ∧
        (∀ e lo hi, s.zfw.kinds.toList.head? = some (some ⟨lo, hi, e⟩) → lo ≤ hi →
          t.zfw.classOf src dst (some lo) = some (match e with
            | .payment => p | .interactive => i | .bulk => b | .control => c : HintClass).toClass) ∧
        (∀ x y k, ¬(x = src ∧ y = dst) → t.zfw.classOf x y k = s.zfw.classOf x y k)) ∧
    (exec (.portalSet tag (some none)) s = .next ({ s with gat := { s.gat with portal := none } }.addReply tag .request
      (.ok (.portal s.gat.portal none) []))) ∧
    (∀ p : Portal, maskOk p.mask = true → p.base &&& p.mask = p.base → p.addr &&& p.mask ≠ p.base → s.zfw.rangeZone p.addr = .store →
      exec (.portalSet tag (some (some p))) s = .next ({ s with gat := { s.gat with portal := some p } }.addReply tag .request
        (.ok (.portal s.gat.portal (some p)) []))) ∧
    (∀ p : Portal, maskOk p.mask = false ∨ p.base &&& p.mask ≠ p.base ∨ p.addr &&& p.mask = p.base ∨ s.zfw.rangeZone p.addr ≠ .store →
      exec (.portalSet tag (some (some p))) s = .next (s.addReply tag .request (.refused .badRange .noDetail)))

/-- KIND-SET, every case of it (R130). That a port out of range is BAD_FIELD also where the low port is the greater one is the model's choice
(log 68). -/
def Obligations.KindSetWritesOneEntry : Prop :=
  ∀ (tag : Nat) (a : KindArgs) (s : State), s.canTake = true →
    (7 < a.index ∨ (∃ k, a.entry = some k ∧ (65535 < k.low ∨ 65535 < k.high ∨ trafficKindOf k.kind = none)) →
      exec (.kindSet tag (some a)) s = .next (s.addReply tag .request (.refused .badField .noDetail))) ∧
    (∀ k t, a.index ≤ 7 → a.entry = some k → k.low ≤ 65535 → k.high ≤ 65535 → trafficKindOf k.kind = some t → k.high < k.low →
      exec (.kindSet tag (some a)) s = .next (s.addReply tag .request (.refused .badRange .noDetail))) ∧
    (∀ k t, a.index ≤ 7 → a.entry = some k → k.high ≤ 65535 → trafficKindOf k.kind = some t → k.low ≤ k.high →
      exec (.kindSet tag (some a)) s = .next ({ s with zfw := { s.zfw with
        kinds := s.zfw.kinds.setIfInBounds a.index (some ⟨k.low, k.high, t⟩) } }.addReply tag .request
          (.ok (.kind (tget s.zfw.kinds a.index none) (some ⟨k.low, k.high, t⟩)) []))) ∧
    (a.index ≤ 7 → a.entry = none →
      exec (.kindSet tag (some a)) s = .next ({ s with zfw := { s.zfw with
        kinds := s.zfw.kinds.setIfInBounds a.index none } }.addReply tag .request (.ok (.kind (tget s.zfw.kinds a.index none) none) [])))

/-- A frame is ignored, counted unroutable, dropped as spoofed, denied by its cell, or placed by its destination, into an egress FIFO or a class
queue that has room. A free branch port sends the head of its FIFO, or drops it where its station is not found; a lane message goes first
at the till port, and an empty port sends nothing (R118, R120 to R122, R125, R126, R133, R147). -/
def Obligations.FramesAreJudgedPlacedAndSent : Prop :=
  (∀ (f : TrafficFrame) (mem : MemFaults) (s : State), s.power = .running →
     (∀ port, f.toPart = false → exec (.frameForward port f mem) s = .next s) ∧
     (∀ port, f.toPart = true → packetOf f = none → ¬(port = .till ∧ f.frameType = laneType) →
       exec (.frameForward port f mem) s = .next { s with zfw := { s.zfw with counts := s.zfw.counts.unroutable port } }) ∧
     (∀ p r, f.toPart = true → packetOf f = some p → 1 < p.ttl → s.zfw.bestMatch p.src = some r → (r.zone = .headoffice ∨ r.zone = .payment) →
       ∃ t, exec (.frameForward .lan f mem) s = .next t ∧
         t = { s with
           zfw := { s.zfw with counts := { s.zfw.counts with spoofedLan := t.zfw.counts.spoofedLan }, spoofLan := t.zfw.spoofLan }
           msp := t.msp } ∧
         t.zfw.counts.spoofedLan = bump 4294967295 s.zfw.counts.spoofedLan ∧
         (t.msp ≠ s.msp → ∀ x, s.zfw.spoofLan = some x → x + 60 ≤ s.elapsed)) ∧
     (∀ p src, f.toPart = true → packetOf f = some p → 1 < p.ttl → f.frameType ≠ laneType →
       (∀ x, s.zfw.bestMatch p.src = some x → x.zone = src) → (s.zfw.bestMatch p.src = none → src = .store) →
       (src = .store ∨ src = .till) → underPortal .lan p s.gat = false → s.gat.inBlock p.dst = false →
       let z := src.zone
       let d := s.zfw.rangeZone p.dst
       (passes z d p.src p.dst s.zfw = false → exec (.frameForward .lan f mem) s =
         .next { s with zfw := { s.zfw with counts := s.zfw.counts.deny z } }) ∧
       (passes z d p.src p.dst s.zfw = true → d = .till → s.zfw.tillFifo.length < 256 → exec (.frameForward .lan f mem) s =
         .next { s with zfw := { s.zfw with
           tillFifo := s.zfw.tillFifo ++ [⟨p.forwarded, p.dst, f.length, none⟩], counts := s.zfw.counts.forward z } }) ∧
       (passes z d p.src p.dst s.zfw = true → d = .till → 256 ≤ s.zfw.tillFifo.length → exec (.frameForward .lan f mem) s =
         .next { s with zfw := { s.zfw with counts := s.zfw.counts.egressDrop .till 1 } }) ∧
       (∀ c, passes z d p.src p.dst s.zfw = true → s.zfw.classOf z d p.port = some c → (s.uls.queue c).frames.length < c.capacity →
         exec (.frameForward .lan f mem) s = .next { s with
           zfw := { s.zfw with counts := s.zfw.counts.forward z }
           uls := s.uls.setQueue c { s.uls.queue c with frames := (s.uls.queue c).frames ++ [⟨.packet p.forwarded, f.length⟩] } }))) ∧
  (∀ (p : BranchPort) (found : Bool) (s : State), s.power = .running →
     (∀ m rest, p = .till → s.tsu.outbox = m :: rest → exec (.egressPortReady p found) s =
       .next { s with tsu := { s.tsu with outbox := rest }, out := { s.out with till := some (.service m) } }) ∧
     (¬(p = .till ∧ s.tsu.outbox ≠ []) → s.zfw.fifo p = [] → exec (.egressPortReady p found) s = .next s) ∧
     (∀ f rest, ¬(p = .till ∧ s.tsu.outbox ≠ []) → s.zfw.fifo p = f :: rest →
       ∃ t, exec (.egressPortReady p found) s = .next t ∧
         t = { s with zfw := { (s.zfw.setFifo p rest) with counts := t.zfw.counts }, out := t.out } ∧
         (found = true ∨ p = .guest → t.zfw.counts = s.zfw.counts ∧ t.out = (match p with
           | .lan => { s.out with lan := some f } | .till => { s.out with till := some (.forwarded f) }
           | .guest => { s.out with guest := some f })) ∧
         (found = false → p ≠ .guest → t.out = s.out ∧ t.zfw.counts = s.zfw.counts.egressDrop p 1)))

/-- No frame from the guest port reaches the till port, the LAN other than the portal, or a class queue but GUEST (R123). -/
def Obligations.GuestsReachOnlyThePortalAndTheInternet : Prop :=
  ∀ (f : TrafficFrame) (mem : MemFaults) (s : State), ∃ t, exec (.frameForward .guest f mem) s = .next t ∧
    t.tsu = s.tsu ∧ t.zfw.tillFifo = s.zfw.tillFifo ∧ t.zfw.guestFifo = s.zfw.guestFifo ∧ t.out = s.out ∧
    t.uls.pay = s.uls.pay ∧ t.uls.ctrl = s.uls.ctrl ∧ t.uls.store = s.uls.store ∧ t.uls.exch = s.uls.exch ∧
    (t.zfw.lanFifo ≠ s.zfw.lanFifo → ∃ p q, packetOf f = some p ∧ s.gat.portal = some q ∧ p.dst = q.addr ∧
      s.zfw.rangeZone q.addr = .store ∧ s.gat.isOpen = true ∧ t.zfw.lanFifo = s.zfw.lanFifo ++ [⟨p.forwarded, p.dst, f.length, none⟩]) ∧
    (t.uls.guest.frames ≠ s.uls.guest.frames → ∃ p, packetOf f = some p ∧ s.gat.isOpen = true ∧ destZone p.dst s = .internet ∧
      t.uls.guest.frames = s.uls.guest.frames ++ [⟨.packet p.forwarded, f.length⟩])

/-- GUEST-SERVICE, GUEST-ADMIT, GUEST-BAR, GUEST-END and the timed events of a session (R137, R138, R142 to R144). -/
def Obligations.GuestSessionsFollowTheirRequestsAndTimes : Prop :=
  (∀ (tag : Nat) (s : State), s.canTake = true →
    (∀ o, (o = 0 ∨ o = 1) → ∃ t, exec (.guestService tag (some ⟨o, none⟩)) s = .next t ∧
      t = { s with
        gat := { s.gat with isOpen := decide (o = 0) }
        zfw := { s.zfw with guestFifo := t.zfw.guestFifo, counts := { s.zfw.counts with dropGuest := t.zfw.counts.dropGuest } }
        msp := { s.msp with replies := s.msp.replies ++ [⟨tag, .ok .empty [], .request⟩] } } ∧
      t.zfw.guestFifo = (if o = 1 ∧ s.gat.isOpen = true then [] else s.zfw.guestFifo)) ∧
    (∀ o n, (o = 0 ∨ o = 1) → ∃ t, exec (.guestService tag (some ⟨o, some n⟩)) s = .next t ∧
      t.gat.isOpen = decide (o = 0) ∧ t.gat.idleLimit = (if n < 60 then 60 else if 3600 < n then 3600 else n) ∧
      (s.guestsOrdered → ∀ hw g, t.guest hw = some g → g.state = .admitted → s.now < g.lastFrame + t.gat.idleLimit) ∧
      t.msp.replies = s.msp.replies ++ [⟨tag, .ok .empty (if n < 60 ∨ 3600 < n then [.clamped] else []), .request⟩]) ∧
    (∀ (a : GuestAdmitArgs) (g : GuestSession), isGroup a.hw = false → a.quota ≤ 4294967295 → s.guest a.hw = some g →
      (g.state = .admitted ∨ g.state = .throttled ∨ g.state = .barred →
        exec (.guestAdmit tag (some a)) s = .next (s.addReply tag .request (.refused .state .noDetail))) ∧
      (g.state = .pending ∨ g.state = .idle ∨ g.state = .expired →
        let d := if a.duration < 60 then 60 else if 86400 < a.duration then 86400 else a.duration
        let g' := { g with
          state := if a.quota = 0 then .throttled else .admitted, admittedAt := some s.now, lastFrame := s.now
          expiresAt := some (s.now + d), quota := a.quota, used := 0, cooled := false }
        ∃ t, exec (.guestAdmit tag (some a)) s = .next t ∧
          t = { s with
            gat := { s.gat with sessions := t.gat.sessions }, msp := t.msp } ∧
          t.guest a.hw = some g' ∧ (∀ h, h ≠ a.hw → t.guest h = s.guest h) ∧
          t.msp.reports = (if a.quota = 0 then
            queueReport s.now (.guestQuota g.hw g.address 0 (some s.now) (some (s.now + d))) s.msp.reports else s.msp.reports) ∧
          t.msp.replies = s.msp.replies ++ [⟨tag, .ok (.number 4 (s.now + d))
            (if a.duration < 60 ∨ 86400 < a.duration then [.clamped] else []), .request⟩])) ∧
    (∀ hw, isGroup hw = false →
      (∀ g, s.guest hw = some g → ∃ t, exec (.guestBar tag (some hw)) s = .next t ∧ t.guest hw = some { g with state := .barred } ∧
        (∀ h, h ≠ hw → t.guest h = s.guest h) ∧ t.msp.replies = s.msp.replies ++ [⟨tag, .ok .empty [], .request⟩]) ∧
      (s.guest hw = none → s.gat.sessions.length < 512 → ∃ t, exec (.guestBar tag (some hw)) s = .next t ∧
        t.guest hw = some ⟨hw, .barred, none, s.now, none, none, 0, 0, s.now, false⟩ ∧ (∀ h, h ≠ hw → t.guest h = s.guest h)) ∧
      (s.guest hw = none → exec (.guestEnd tag (some hw)) s = .next (s.addReply tag .request (.refused .notFound (.missing .session)))) ∧
      (∀ g, s.guest hw = some g → ∃ t, exec (.guestEnd tag (some hw)) s = .next t ∧ t.guest hw = none ∧ t.gat.fullArmed = true ∧
        (∀ h, h ≠ hw → t.guest h = s.guest h) ∧ t.msp.replies = s.msp.replies ++ [⟨tag, .ok .empty [], .request⟩]))) ∧
  (∀ (hw : HwAddr) (g : GuestSession) (s : State), s.power = .running → s.guest hw = some g →
    (g.state = .admitted → g.lastFrame + s.gat.idleLimit ≤ s.now → ∃ t, exec (.guestIdle hw) s = .next t ∧
      t = { s with gat := { s.gat with sessions := t.gat.sessions, fullArmed := true } } ∧
      t.guest hw = some { g with state := .idle } ∧ ∀ h, h ≠ hw → t.guest h = s.guest h) ∧
    (g.state ≠ .admitted → exec (.guestIdle hw) s = .next s) ∧
    (∀ x, g.state = .admitted ∨ g.state = .idle ∨ g.state = .throttled → g.expiresAt = some x → x ≤ s.now →
      ∃ t, exec (.guestExpiry hw) s = .next t ∧ t = { s with gat := { s.gat with sessions := t.gat.sessions } } ∧
        t.guest hw = some { g with state := .expired, quota := 0, cooled := false } ∧ ∀ h, h ≠ hw → t.guest h = s.guest h) ∧
    (g.state = .barred → exec (.guestExpiry hw) s = .next s) ∧
    (∀ x, g.state = .expired → g.cooled = false → g.expiresAt = some x → x + 300 ≤ s.now →
      ∃ t, exec (.guestCooldownEnd hw) s = .next t ∧ t = { s with gat := { s.gat with sessions := t.gat.sessions, fullArmed := true } } ∧
        t.guest hw = some { g with cooled := true } ∧ ∀ h, h ≠ hw → t.guest h = s.guest h))

/-- The arbiter's five steps at a ready event of the WAN port (R153). -/
def Obligations.WanReadySendsByTheArbiter : Prop :=
  ∀ (s : State), s.power = .running →
    let u := s.uls
    let waits := fun c : SharedClass => (u.queue c.toClass).frames ≠ []
    let profile := match u.inForce with | .day => u.day | .night => u.night
    ∃ t, exec .wanReady s = .next t ∧ t = { s with uls := t.uls, out := { s.out with wan := t.out.wan } } ∧
      (∀ f rest, u.pay.frames = f :: rest → t.out.wan = some f ∧ t.uls = { u with pay := t.uls.pay } ∧ t.uls.pay.frames = rest) ∧
      (u.pay.frames = [] → ∀ f rest, 0 < u.allowance → (u.queue u.holder.toClass).frames = f :: rest →
        t.out.wan = some f ∧ (t.uls.queue u.holder.toClass).frames = rest ∧ t.uls.holder = u.holder ∧
        t.uls.allowance = u.allowance - f.length ∧
        ∀ c, c ≠ u.holder.toClass → t.uls.queue c = u.queue c) ∧
      (u.pay.frames = [] → (u.allowance = 0 ∨ ¬waits u.holder) → ∀ c f rest, u.holder.round.find? (fun c => decide (waits c)) = some c →
        (u.queue c.toClass).frames = f :: rest →
        t.out.wan = some f ∧ (t.uls.queue c.toClass).frames = rest ∧ t.uls.holder = c ∧ t.uls.allowance = profile.allowance c - f.length ∧
        ∀ x, x ≠ c.toClass → t.uls.queue x = u.queue x) ∧
      (u.pay.frames = [] → u.allowance = 0 → (∀ c, waits c → c = u.holder) → ∀ f rest, (u.queue u.holder.toClass).frames = f :: rest →
        t.out.wan = some f ∧ (t.uls.queue u.holder.toClass).frames = rest ∧ t.uls.holder = u.holder ∧
        t.uls.allowance = profile.allowance u.holder - f.length ∧
        ∀ c, c ≠ u.holder.toClass → t.uls.queue c = u.queue c) ∧
      (u.pay.frames = [] → (∀ c, ¬waits c) → t = s)

/-- A frame that meets a full PAY queue is counted; the first is reported and faulted and starts an interval, those that follow in it are
only counted, and its end reports them or stops it (R147, R149). That the suppressed count stops at 4,294,967,295 is the model's choice
(log 80). -/
def Obligations.PayDropsAreReportedByTheInterval : Prop :=
  ∀ (s : State), s.power = .running →
    (∀ f, s.uls.pay.frames.length = 64 →
      let n := bump 4294967295 s.uls.pay.drops
      (s.uls.payDrop = none → ∃ t, enqueueClass .pay f s = t ∧
        t = { s with uls := { s.uls with pay := { s.uls.pay with drops := n }, payDrop := some ⟨s.elapsed + 60, 0⟩ }, msp := t.msp } ∧
        t.msp.route = s.msp.route.log 301 s.now (.payDropped n) ∧
        t.msp.reports = queueReport s.now (.fault .route 301 t.msp.route.seq s.now (.payDropped n))
          (queueReport s.now (.payDrop 1 n s.now) s.msp.reports)) ∧
      (∀ i, s.uls.payDrop = some i → enqueueClass .pay f s = { s with uls := { s.uls with
        pay := { s.uls.pay with drops := n }, payDrop := some { i with suppressed := bump 4294967295 i.suppressed } } })) ∧
    (∀ i, s.uls.payDrop = some i → i.deadline ≤ s.elapsed →
      (i.suppressed = 0 → exec .payDropIntervalEnd s = .next { s with uls := { s.uls with payDrop := none } }) ∧
      (0 < i.suppressed → ∃ t, exec .payDropIntervalEnd s = .next t ∧
        t = { s with uls := { s.uls with payDrop := some ⟨s.elapsed + 60, 0⟩ }, msp := t.msp } ∧
        t.msp.route = s.msp.route.log 301 s.now (.payDropped s.uls.pay.drops) ∧
        t.msp.reports = queueReport s.now (.fault .route 301 t.msp.route.seq s.now (.payDropped s.uls.pay.drops))
          (queueReport s.now (.payDrop i.suppressed s.uls.pay.drops s.now) s.msp.reports)))

/-! ### The nightly exchange and the cutover (10) -/

/-- BLOCK-SIZE; EXCHANGE-START, which opens a session or fails NO_PEER at once; EXCHANGE-ABORT and a peer's ABORT, which end one before
STAGING and turn one in STAGING to ABORTING; a stray datagram (R158 to R161, R170). That the stray count stops at 4,294,967,295 (log 40), and
that a NO_PEER failure names the state OPENING (log 81), is the model's choice. -/
def Obligations.ExchangeSessionsOpenAndAbort : Prop :=
  (∀ (tag : Nat) (s : State), s.canTake = true →
    (∀ n, exec (.blockSize tag (some n)) s = .next ({ s with xce := { s.xce with
        blockSize := if n = 2 ∨ n = 4 ∨ n = 8 ∨ n = 16 then some n else none } }.addReply tag .request
      (.ok .empty (if n = 2 ∨ n = 4 ∨ n = 8 ∨ n = 16 then [] else [.disabled])))) ∧
    (∀ branch b, 1 ≤ branch.length → branch.length ≤ 16 → s.xce.session.state = .idle → s.xce.blockSize = some b →
      (s.xce.cutover.state = .none ∨ s.xce.cutover.state = .scheduled) →
      let n := if s.xce.counter < 65535 then s.xce.counter + 1 else 1
      ∃ t, exec (.exchangeStart tag (some branch)) s = .next t ∧
        t = { s with
          xce := { s.xce with session := t.xce.session, staging := t.xce.staging, counter := n }
          uls := { s.uls with exch := t.uls.exch }, msp := t.msp } ∧
        t.msp.replies = s.msp.replies ++ [⟨tag, .accepted n, .request⟩] ∧
        (∀ p, s.zfw.exchangePeer = some p → t.xce.session.state = .opening ∧ t.xce.session.number = n ∧ t.xce.session.branch = branch ∧
          t.xce.session.startTag = tag ∧ t.xce.session.attempts = 1 ∧ t.xce.session.peer = some p ∧
          t.xce.session.helloDue = some (s.elapsed + 30) ∧ t.msp.reports = s.msp.reports ∧
          (s.uls.exch.frames.length < 128 → t.uls.exch.frames.length = s.uls.exch.frames.length + 1 ∧
            t.uls.exch.frames.getLast?.map (·.payload) =
              some (.datagram Config.ownWanAddress p (.hello n branch identity s.itb.epoch s.jnl.mark.seq s.jnl.append.seq)))) ∧
        (s.zfw.exchangePeer = none → t.xce.session.state = .idle ∧ t.uls = s.uls ∧ t.msp.reports =
          queueReport s.now (.exchangeFailed n tag .noPeer .opening s.jnl.unuploaded s.jnl.mark) s.msp.reports))) ∧
  (∀ (c : Instr) (r : FailReason) (s : State),
    (∃ tag, c = .exchangeAbort tag true ∧ r = .hostAbort ∧ s.canTake = true) ∨
    (∃ reason, c = .peerAbort s.xce.session.number reason ∧ r = .peerAbort ∧ s.power = .running) →
    (∀ st, s.xce.session.state = st → (st = .opening ∨ st = .upload ∨ st = .download ∨ st = .verify) →
      ∃ t, exec c s = .next t ∧ t.xce.session = ExchangeSession.idle ∧ t.xce.staging = [] ∧
        t = { s with
          xce := { s.xce with session := t.xce.session, staging := [] }, jnl := { s.jnl with limit := t.jnl.limit }
          uls := { s.uls with inForce := t.uls.inForce }, msp := { s.msp with replies := t.msp.replies, reports := t.msp.reports } } ∧
        (st = .upload → t.jnl.limit = none ∧ t.uls.inForce = .day) ∧
        t.msp.reports = queueReport s.now (.exchangeFailed s.xce.session.number s.xce.session.startTag r st s.jnl.unuploaded s.jnl.mark)
          s.msp.reports) ∧
    (s.xce.session.state = .staging → ∃ t, exec c s = .next t ∧ t.xce.session.state = .aborting ∧ t.xce.session.failure = some r ∧
      t.xce.walk = some (.abort none) ∧ t.itb = s.itb ∧ t.msp.reports = s.msp.reports)) ∧
  (∀ (s : State), s.power = .running → exec .strayDatagram s =
    .next { s with xce := { s.xce with session := { s.xce.session with stray := bump 4294967295 s.xce.session.stray } } })

/-- ACCEPT, JACK, BHEAD and BPART in the states that take them: the snapshot laid in blocks and sent while fewer than 4 are unacknowledged, the
journal acknowledged up to the end of the block that a JACK names (JournalReclaimsRefusesAndMovesItsMark says what that moves), the header
judged, and a part in order joined to the Staging Area, each with its BACK (R73, R74, R162, R163, R165). The BACK of a part that completes
or fails the batch and the restart of its 10 s are log 33 (DEDUCED), the stop of the stray count log 40 (DESIGN CHOICE). That a BLOCK-SIZE
taken in OPENING applies to this session is the model's choice (log 93). -/
def Obligations.DatagramsMoveTheSession : Prop :=
  (∀ (mem : MemFaults) (b : Nat) (s : State), s.power = .running → s.xce.session.state = .opening → s.xce.blockSize = some b → 0 < b →
    ∃ t, exec (.accept s.xce.session.number mem) s = .next t ∧ t.uls.inForce = .night ∧ t.xce.session.blockSize = b ∧
      t.xce.session.origin = s.jnl.mark.pos ∧ t.xce.session.limit = s.jnl.append.pos ∧
      t.xce.session.laid = (s.jnl.unuploaded + b - 1) / b ∧ t.itb = s.itb ∧ t.jnl.mark = s.jnl.mark ∧ t.jnl.append = s.jnl.append ∧
      (s.jnl.unuploaded = 0 → t.xce.session.state = .download ∧ t.jnl.limit = none ∧ t.xce.session.partDue = some (s.elapsed + 30)) ∧
      (0 < s.jnl.unuploaded → t.xce.session.state = .upload ∧ t.jnl.limit = some s.jnl.append ∧
        (s.xce.session.highestSent = 0 → s.xce.session.highestAcked = 0 → t.xce.session.highestSent = min 4 t.xce.session.laid))) ∧
  (∀ (n : Nat) (mem : MemFaults) (s : State), s.power = .running → s.xce.session.state = .upload →
    (s.xce.session.highestSent < n → exec (.jack s.xce.session.number n mem) s = .next { s with xce := { s.xce with
      session := { s.xce.session with stray := bump 4294967295 s.xce.session.stray } } }) ∧
    (n ≤ s.xce.session.highestSent → n ≤ s.xce.session.highestAcked → exec (.jack s.xce.session.number n mem) s = .next s) ∧
    (n ≤ s.xce.session.highestSent → s.xce.session.highestAcked < n →
      ∃ t, exec (.jack s.xce.session.number n mem) s = .next t ∧ t.xce.session.highestAcked = n ∧ t.xce.session.resends = 0 ∧
        t.itb = s.itb ∧ t.jnl.append = s.jnl.append ∧ t.jnl.oldest = s.jnl.oldest ∧
        (let x := s.xce.session
         let u := acknowledge (if n = x.laid then x.limit else (x.origin + n * x.blockSize) % 131072) s
         t.jnl.mark = u.jnl.mark ∧ t.jnl.highArmed = u.jnl.highArmed ∧ t.jnl.fullArmed = u.jnl.fullArmed ∧
         t.xce.session.highestSent = (if n = x.laid then x.highestSent else max x.highestSent (min x.laid (n + 4))) ∧
         t.xce.session.blocksSent = x.blocksSent + (t.xce.session.highestSent - x.highestSent)) ∧
        (n = s.xce.session.laid → t.xce.session.state = .download ∧ t.jnl.limit = none) ∧
        (n ≠ s.xce.session.laid → t.xce.session.state = .upload ∧ t.jnl.limit = s.jnl.limit ∧
          t.xce.session.uploadDue = some (s.elapsed + 10)))) ∧
  (∀ (batch epoch count check : Nat) (s : State), s.power = .running → s.xce.session.state = .download →
    (s.xce.session.header = none → epoch = s.itb.epoch + 1 → 0 < count → count ≤ 32768 →
      ∃ t, exec (.bhead s.xce.session.number batch epoch count check) s = .next t ∧
        t = { s with
          xce := { s.xce with session := { s.xce.session with header := some ⟨batch, epoch, count, check⟩ } }
          uls := { s.uls with exch := t.uls.exch } } ∧
        (∀ p, s.xce.session.peer = some p → s.uls.exch.frames.length < 128 → t.uls.exch.frames.map (·.payload) =
          s.uls.exch.frames.map (·.payload) ++
            [.datagram Config.ownWanAddress p (.back s.xce.session.number s.xce.session.highestPart)])) ∧
    (s.xce.session.header = none → (epoch ≠ s.itb.epoch + 1 ∨ 32768 < count) →
      ∃ t, exec (.bhead s.xce.session.number batch epoch count check) s = .next t ∧ t.xce.session.state = .idle ∧ t.xce.staging = [] ∧
        t.uls.inForce = .day ∧ t.msp.reports = queueReport s.now (.exchangeFailed s.xce.session.number s.xce.session.startTag
          (if epoch ≠ s.itb.epoch + 1 then .epochMismatch else .stagingFull) .download s.jnl.unuploaded s.jnl.mark) s.msp.reports) ∧
    (∀ h, s.xce.session.header = some h → h ≠ ⟨batch, epoch, count, check⟩ →
      exec (.bhead s.xce.session.number batch epoch count check) s = .next { s with xce := { s.xce with
        session := { s.xce.session with stray := bump 4294967295 s.xce.session.stray } } })) ∧
  (∀ (es : List RawChange) (h : BatchHeader) (s : State), s.power = .running → s.xce.session.state = .download →
    s.xce.session.header = some h → 1 ≤ es.length → es.length ≤ 16 → s.xce.staging.length + es.length ≤ h.count →
    let part := s.xce.session.highestPart + 1
    (∃ t, exec (.bpart s.xce.session.number part es false) s = .next t ∧
      t = { s with
        xce := { s.xce with
          staging := s.xce.staging ++ es
          session := { s.xce.session with
            highestPart := part, partDue := some (s.elapsed + 30), backDue := some (s.elapsed + 10) } }
        uls := { s.uls with exch := t.uls.exch } } ∧
      (∀ p, s.xce.session.peer = some p → s.uls.exch.frames.length < 128 → t.uls.exch.frames.map (·.payload) =
        s.uls.exch.frames.map (·.payload) ++ [.datagram Config.ownWanAddress p (.back s.xce.session.number part)])) ∧
    (s.xce.staging.length + es.length = h.count → (batchSum (s.xce.staging ++ es) + h.check) % 65536 = 0 →
      (s.xce.cutover.state = .none ∨ s.xce.cutover.state = .scheduled) → s.xce.walk = none →
      ∃ t, exec (.bpart s.xce.session.number part es true) s = .next t ∧ t.xce.session.state = .staging ∧
        t.xce.staging = s.xce.staging ++ es ∧ t.xce.stagingBatch = some h.batch ∧ t.itb.pendingBatch = none ∧
        t.itb.items = s.itb.items ∧ t.xce.walk = some (.pass1 none) ∧ t.uls.inForce = .day) ∧
    (s.xce.staging.length + es.length < h.count →
      ∃ t, exec (.bpart s.xce.session.number part es true) s = .next t ∧ t.xce.session.state = .idle ∧ t.xce.staging = [] ∧
        t.itb = s.itb ∧ t.uls.inForce = .day))

/-- The exchange's timers: a fresh HELLO entered in the EXCH queue twice and then NO_ANSWER; every sent and unacknowledged block read and entered
again, in block order, each read in the state that the reads before it leave, five times and then UPLOAD_TIMEOUT; BACK made again; the part
timer's end. A failure is logged as fault 401, whose FAULT report comes before EXCHANGE-FAILED (R161, R164, R165, R170). That order of the two
is the model's choice (log 90), and that BACK's 10 s run from its own repeats is log 33 (DEDUCED). -/
def Obligations.ExchangeTimersRetryThenFail : Prop :=
  ∀ (s : State) (d : Nat), s.power = .running → d ≤ s.elapsed →
    let failed : State → FailReason → ExchangeState → Prop := fun t r st =>
      t.msp.exchange = s.msp.exchange.log 401 s.now (.session s.xce.session.number r) ∧
      t.msp.reports = queueReport s.now
        (.exchangeFailed s.xce.session.number s.xce.session.startTag r st s.jnl.unuploaded s.jnl.mark)
        (queueReport s.now (.fault .exchange 401 t.msp.exchange.seq s.now (.session s.xce.session.number r)) s.msp.reports)
    (s.xce.session.state = .opening → s.xce.session.helloDue = some d →
      (s.xce.session.attempts < 3 → ∃ t, exec .helloTimeout s = .next t ∧
        t = { s with
          xce := { s.xce with session := { s.xce.session with
            attempts := s.xce.session.attempts + 1, helloDue := some (s.elapsed + 30) } }
          uls := { s.uls with exch := t.uls.exch } } ∧
        (∀ p, s.xce.session.peer = some p → s.uls.exch.frames.length < 128 → t.uls.exch.frames.map (·.payload) =
          s.uls.exch.frames.map (·.payload) ++ [.datagram Config.ownWanAddress p (.hello s.xce.session.number s.xce.session.branch identity
            s.itb.epoch s.jnl.mark.seq s.jnl.append.seq)])) ∧
      (3 ≤ s.xce.session.attempts → ∃ t, exec .helloTimeout s = .next t ∧ t.xce.session.state = .idle ∧
        failed t .noAnswer .opening ∧ t.uls = s.uls ∧ t.jnl = s.jnl ∧ t.itb = s.itb)) ∧
    (∀ mem, s.xce.session.state = .upload → s.xce.session.uploadDue = some d →
      (s.xce.session.resends < 5 → ∃ t, exec (.uploadIntervalExpiry mem) s = .next t ∧
        t = { s with
          jnl := { s.jnl with records := t.jnl.records }, uls := { s.uls with exch := t.uls.exch }, msp := t.msp
          xce := { s.xce with session := { s.xce.session with
            resends := s.xce.session.resends + 1, uploadDue := some (s.elapsed + 10) } } } ∧
        (let x := s.xce.session
         let start : Nat → Nat := fun k => (x.origin + (k - 1) * x.blockSize) % 131072
         let reads : Nat → State := fun i =>
           (List.range i).foldl (fun u j => (blockRead mem (start (x.highestAcked + 1 + j)) x.blockSize u).1) s
         ∀ p lim, x.peer = some p → s.jnl.limit = some lim →
          (∀ k, x.highestAcked < k → k ≤ x.highestSent →
            (start k + 131072 - s.jnl.mark.pos) % 131072 < pagesBetween s.jnl.mark lim) →
          s.uls.exch.frames.length + (x.highestSent - x.highestAcked) ≤ 128 →
          t.uls.exch.frames.map (·.payload) = s.uls.exch.frames.map (·.payload) ++
            ((List.range (x.highestSent - x.highestAcked)).map fun i =>
              let k := x.highestAcked + 1 + i
              let pages := ((blockRead mem (start k) x.blockSize (reads i)).2).getD []
              .datagram Config.ownWanAddress p (.jblock x.number k ((pages.head?.map (·.seq)).getD 0) pages.length pages)) ∧
          t.jnl = (reads (x.highestSent - x.highestAcked)).jnl ∧ t.msp = (reads (x.highestSent - x.highestAcked)).msp)) ∧
      (5 ≤ s.xce.session.resends → ∃ t, exec (.uploadIntervalExpiry mem) s = .next t ∧ t.xce.session.state = .idle ∧
        t.jnl = { s.jnl with limit := none } ∧ t.uls = { s.uls with inForce := .day } ∧ failed t .uploadTimeout .upload)) ∧
    (s.xce.session.state = .download → s.xce.session.backDue = some d → ∃ t, exec .backResend s = .next t ∧
      t = { s with
        xce := { s.xce with session := { s.xce.session with backDue := some (s.elapsed + 10) } }
        uls := { s.uls with exch := t.uls.exch } } ∧
      (∀ p, s.xce.session.peer = some p → s.uls.exch.frames.length < 128 → t.uls.exch.frames.getLast?.map (·.payload) =
        some (.datagram Config.ownWanAddress p (.back s.xce.session.number s.xce.session.highestPart)))) ∧
    (s.xce.session.state = .download → s.xce.session.partDue = some d → ∃ t, exec .partTimeout s = .next t ∧
      t.xce.session.state = .idle ∧ t.xce.staging = [] ∧ t.uls = { s.uls with inForce := .day } ∧ t.itb = s.itb ∧ t.jnl = s.jnl ∧
      failed t .partTimeout .download)

/-- The three walks one record or entry at a time: pass 1 drops another batch's pending records, pass 2 installs a change, the abort walk drops
this batch's, and the APPLY walk promotes what is due and moves its position; each leaves every other record as it was (R5, R21, R168,
R170, R174). -/
def Obligations.WalksVisitOneRecord : Prop :=
  ∀ (mem : MemFaults) (r : ItemRecord) (s : State), s.power = .running → s.itemsOrdered → r ∈ s.itb.items →
    (∃ x ∈ s.itb.items, r.code < x.code) → r.code ∉ mem.items →
    (∀ pos batch p, s.xce.stagingBatch = some batch → r.pending = some p → (∀ x ∈ s.itb.items, x.code < r.code → ∃ k, pos = some k ∧ x.code ≤ k) →
      (∀ k, pos = some k → k < r.code) →
      (s.xce.walk = some (.pass1 pos) → ∃ t, exec (.stagingPass1Step mem) s = .next t ∧
        t = { s with itb := { s.itb with items := t.itb.items }, xce := { s.xce with walk := some (.pass1 (some r.code)) } } ∧
        (∀ c, c ≠ r.code → t.item c = s.item c) ∧
        t.item r.code = (if p.batch = batch then some r else if r.current = none then none else some { r with pending := none })) ∧
      (s.xce.walk = some (.abort pos) → ∃ t, exec (.abortWalkStep mem) s = .next t ∧
        t = { s with itb := { s.itb with items := t.itb.items }, xce := { s.xce with walk := some (.abort (some r.code)) } } ∧
        (∀ c, c ≠ r.code → t.item c = s.item c) ∧
        t.item r.code = (if p.batch ≠ batch then some r else if r.current = none then none else some { r with pending := none }))) ∧
    (∀ i c h batch d p, s.xce.walk = some (.pass2 i) → s.xce.stagingBatch = some batch → s.xce.session.header = some h →
      s.xce.staging[i]? = some c → i + 1 < s.xce.staging.length → c.code = r.code → codeOk r.code = true → (c.kind = 0 ∨ c.kind = 1) →
      c.detail = some d → checkPrice d.price = .ok p → d.desc.length ≤ 24 → d.band ≤ 7 →
      ∃ t, exec (.stagingPass2Step mem) s = .next t ∧
        t = { s with
          itb := { s.itb with items := t.itb.items }
          xce := { s.xce with
            walk := some (.pass2 (i + 1)), session := { s.xce.session with installed := s.xce.session.installed + 1 } } } ∧
        (∀ k, k ≠ r.code → t.item k = s.item k) ∧
        t.item r.code = some { r with pending := some ⟨h.epoch, batch, .price p d.desc d.band⟩ }) ∧
    (s.xce.cutover.state = .apply → s.xce.walk = none →
      (∀ x ∈ s.itb.items, x.code < r.code → ∃ k, s.xce.cutover.walkPos = some k ∧ x.code ≤ k) →
      (∀ k, s.xce.cutover.walkPos = some k → k < r.code) →
      ∃ t, exec (.applyWalkStep mem) s = .next t ∧
        t = { s with
          itb := { s.itb with items := t.itb.items }, lrc := t.lrc
          xce := { s.xce with cutover := { s.xce.cutover with
            walkPos := some r.code, promoted := t.xce.cutover.promoted, deleted := t.xce.cutover.deleted } } } ∧
        (∀ c, c ≠ r.code → t.item c = s.item c) ∧
        (r.pending = none → t.item r.code = some r ∧ t.lrc = s.lrc) ∧
        (∀ e b, r.pending = some ⟨e, b, .delete⟩ → e ≤ s.itb.epoch + 1 →
          t.item r.code = none ∧ t.xce.cutover.deleted = s.xce.cutover.deleted + 1) ∧
        (∀ e b n desc band, r.pending = some ⟨e, b, .price n desc band⟩ → e ≤ s.itb.epoch + 1 →
          t.xce.cutover.promoted = s.xce.cutover.promoted + 1 ∧ ∃ r', t.item r.code = some r' ∧ r'.current = some n ∧ r'.desc = desc ∧
            r'.band = band ∧ r'.pending = none ∧ r'.blocked = r.blocked ∧ r'.labels = r.labels ∧ r'.count = r'.pendingCount ∧
            r'.version = (if r.version < 65535 then r.version + 1 else 0)) ∧
        (∀ p, r.pending = some p → s.itb.epoch + 1 < p.epoch → t.item r.code = some r ∧ t.lrc = s.lrc))

/-- A cutover request is refused while one is under way or the epoch is at its end; CUTOVER-AT schedules, CUTOVER-NOW and a schedule that
falls due start a drain under the hold; a drain that ends with a pending batch goes on to APPLY (R61, R172, R173). That BUSY comes before
EPOCH_LIMIT is the model's choice (log 86). -/
def Obligations.CutoverSchedulesDrainsAndApplies : Prop :=
  (∀ (tag : Nat) (drain : Option Nat) (time : Nat) (s : State), s.canTake = true →
    let limit := let n := drain.getD 300; if n < 30 then 30 else if 1800 < n then 1800 else n
    let note : List Note := if limit = drain.getD 300 then [] else [.clamped]
    (s.xce.cutover.state = .drain ∨ s.xce.cutover.state = .apply ∨ s.xce.cutover.state = .finish →
      exec (.cutoverNow tag (some drain)) s = .next (s.addReply tag .request (.refused .busy .noDetail)) ∧
      exec (.cutoverAt tag (some ⟨time, drain⟩)) s = .next (s.addReply tag .request (.refused .busy .noDetail))) ∧
    (s.xce.cutover.state = .none ∨ s.xce.cutover.state = .scheduled →
      (s.itb.epoch = 4294967295 →
        exec (.cutoverNow tag (some drain)) s = .next (s.addReply tag .request (.refused .epochLimit .noDetail))) ∧
      (s.itb.epoch < 4294967295 → s.now < time → exec (.cutoverAt tag (some ⟨time, drain⟩)) s =
        .next ({ s with xce := { s.xce with
          cutover := ⟨.scheduled, some time, limit, tag, none, false, 0, 0, none, 0, none⟩ } }.addReply tag .request
            (.ok (.number 4 time) note))) ∧
      (s.itb.epoch < 4294967295 → 0 < s.tsu.openCount →
        ∃ t, exec (.cutoverNow tag (some drain)) s = .next t ∧
          t = { s with
            xce := { s.xce with cutover := ⟨.drain, none, limit, tag, none, false, 0, 0, none, 0, some (s.elapsed + limit)⟩ }
            tsu := { s.tsu with sessions := t.tsu.sessions, hold := true }
            msp := { s.msp with replies := s.msp.replies ++ [⟨tag, .ok .empty (note ++ [.started]), .request⟩] } } ∧
          ∀ lane, laneOk lane = true → t.session lane =
            if (s.session lane).state.isPresent then
              { s.session lane with state := settled (s.session lane).lockout true (s.basket lane).isOpen } else s.session lane))) ∧
  (∀ (time : Nat) (s : State), s.power = .running → s.xce.cutover.state = .scheduled → s.xce.cutover.time = some time →
    (s.now < time → exec .cutoverScheduleDue s = .next s) ∧
    (time ≤ s.now → 0 < s.tsu.openCount → ∃ t, exec .cutoverScheduleDue s = .next t ∧ t.xce.cutover =
        ⟨.drain, none, s.xce.cutover.drainLimit, s.xce.cutover.startTag, none, false, 0, 0, none, 0,
          some (s.elapsed + s.xce.cutover.drainLimit)⟩ ∧
      t.tsu.hold = true ∧ t.itb = s.itb)) ∧
  (∀ (d : Nat) (s : State), s.power = .running → s.xce.cutover.state = .drain → s.xce.cutover.drainEnd = none →
    s.xce.cutover.drainDue = some d → d ≤ s.elapsed → s.itb.pendingBatch.isSome = true → s.xce.walk = none →
    exec .drainLimitExpiry s = .next { s with xce := { s.xce with cutover := { s.xce.cutover with
      state := .apply, walkPos := none, drainEnd := some .limit, basketsOpen := s.tsu.openCount, drainDue := none } } })

/-- When the APPLY walk has passed the last record the cutover finishes: the epoch advances by 1, no pending batch is left, no temporary
template stands, open baskets are MIXED_EPOCH, the hold is released, and the record returns to NONE (R4, R62, R116, R175). -/
def Obligations.FinishAdvancesTheEpochOnce : Prop :=
  ∀ (mem : MemFaults) (s : State), s.power = .running → s.xce.cutover.state = .apply → s.xce.walk = none → s.tsu.serving = true →
    (∀ x ∈ s.itb.items, ∃ k, s.xce.cutover.walkPos = some k ∧ x.code ≤ k) → s.xce.session.state = .idle →
    ∃ t, exec (.applyWalkStep mem) s = .next t ∧
      t.itb = { s.itb with
        epoch := if s.xce.cutover.epochAdvanced then s.itb.epoch else s.itb.epoch + 1
        pendingBatch := if s.xce.cutover.epochAdvanced then s.itb.pendingBatch else none } ∧
      t.xce.cutover.state = .none ∧ t.tsu.hold = false ∧
      (∀ n, n ≤ 63 → t.tps.temporary n = false) ∧ (∀ n, n ≤ 63 → s.tps.temporary n = false → t.tps.slot n = s.tps.slot n) ∧
      (∀ lane, laneOk lane = true → t.basket lane =
        { s.basket lane with mixed := (s.basket lane).mixed || (s.basket lane).isOpen }) ∧
      t.jnl = s.jnl ∧ t.zfw = s.zfw ∧ t.gat = s.gat ∧ t.uls = s.uls

/-! ### The Message Port, power and the clock (11) -/

/-- FAULT-READ and FAULT-CLEAR, every case of them, with the two orders of a clear and a new fault (R185). -/
def Obligations.FaultReadAndClear : Prop :=
  ∀ (tag : Nat) (a : FaultClearArgs) (s : State), s.canTake = true →
    (domainOf a.domain = none →
      exec (.faultRead tag (some a.domain)) s = .next (s.addReply tag .request (.refused .badField .noDetail)) ∧
      exec (.faultClear tag (some a)) s = .next (s.addReply tag .request (.refused .badField .noDetail))) ∧
    (∀ d, domainOf a.domain = some d →
      let r := s.msp.faultRecord d
      exec (.faultRead tag (some a.domain)) s = .next (s.addReply tag .request (.ok (.fault r) [])) ∧
      (r.held = none → exec (.faultClear tag (some a)) s = .next (s.addReply tag .request (.refused .state .noDetail))) ∧
      (r.held ≠ none → r.seq ≠ a.seq →
        exec (.faultClear tag (some a)) s = .next (s.addReply tag .request (.refused .staleClear (.sequence r.seq)))) ∧
      (r.held ≠ none → r.seq = a.seq → ∀ (code : Nat) (detail : FaultDetail),
        (∃ t, exec (.faultClear tag (some a)) s = .next t ∧
          t = { s with msp := t.msp } ∧ t.msp.replies = s.msp.replies ++ [⟨tag, .ok .empty [], .request⟩] ∧
          t.msp.reports = s.msp.reports ∧ t.msp.clock = s.msp.clock ∧
          t.msp.faultRecord d = ⟨r.seq, none⟩ ∧ (∀ d', d' ≠ d → t.msp.faultRecord d' = s.msp.faultRecord d') ∧
          ((t.logFault d code detail).msp.faultRecord d).held = some ⟨code, s.now, detail, 0⟩) ∧
        (∃ n, n ≠ a.seq ∧ (r.seq < 65535 → n = r.seq + 1) ∧ exec (.faultClear tag (some a)) (s.logFault d code detail) =
          .next ((s.logFault d code detail).addReply tag .request (.refused .staleClear (.sequence n))))))

/-- The port's own events: a read takes the oldest reply, else the head report, else EMPTY; an unknown kind and a ninth request are refused at
once; a frame error is counted and keeps one report up to date; after RESET the port still takes requests until its reply is read, which begins the
start, and from then on takes none (R179, R180, R182, R190). That the reply 'has been taken' when the host has read it, and that a second
RESET before then leaves the kind of the first, is log 45 (DEDUCED). -/
def Obligations.PortReadsRefusesAndResets : Prop :=
  ∀ (tag : Nat) (s : State), s.power = .running →
    (∀ r rest, s.msp.replies = r :: rest → r.place ≠ .resetRequest → exec .hostRead s =
      .next { s with msp := { s.msp with replies := rest }, out := { s.out with host := some (.reply r.tag r.reply) } }) ∧
    (∀ r rest k, s.msp.replies = r :: rest → r.place = .resetRequest → s.msp.resetTaken = some k → ∃ t, exec .hostRead s = .next t ∧
      t = { s with
        msp := { s.msp with replies := rest }, out := { s.out with host := some (.reply r.tag r.reply) }, power := .resetting k } ∧
      ∀ u x cause, exec (.identify u true) t = .next t ∧ exec (.unknownKind u x) t = .next t ∧ exec (.frameError cause) t = .next t) ∧
    (∀ r rest, s.msp.replies = [] → s.msp.reports = r :: rest → exec .hostRead s =
      .next { s with msp := { s.msp with reports := rest }, out := { s.out with host := some (.report r) } }) ∧
    (s.msp.replies = [] → s.msp.reports = [] → exec .hostRead s = .next { s with out := { s.out with host := some .empty } }) ∧
    (∀ kind, s.msp.immediates < 8 →
      exec (.unknownKind tag kind) s = .next (s.addReply tag .immediate (.refused .unknownKind .noDetail))) ∧
    (s.msp.immediates < 8 → 8 ≤ s.msp.unreplied →
      exec (.identify tag true) s = .next (s.addReply tag .immediate (.refused .busy .noDetail))) ∧
    (∀ cause, ∃ t, exec (.frameError cause) s = .next t ∧
      t = { s with msp := { s.msp with
        frameErrors := if s.msp.frameErrors < 4294967295 then s.msp.frameErrors + 1 else 4294967295, reports := t.msp.reports } } ∧
      ((∀ r ∈ s.msp.reports, r.body.isFrameError = false) →
        t.msp.reports = queueReport s.now (.frameError cause t.msp.frameErrors) s.msp.reports) ∧
      ((∃ r ∈ s.msp.reports, r.body.isFrameError = true) → t.msp.reports.length = s.msp.reports.length ∧
        ∀ r ∈ t.msp.reports, r.body.isFrameError = true → r.body = .frameError cause t.msp.frameErrors)) ∧
    (∀ k r, s.canTake = true → resetKindOf k = some r → ∃ t, exec (.reset tag (some k)) s = .next t ∧
      t = { s with msp := { s.msp with
        resetTaken := s.msp.resetTaken.or (some r), replies := s.msp.replies ++ [⟨tag, .ok .empty [], .resetRequest⟩] } } ∧
      ∀ u, s.msp.unreplied < 7 → exec (.identify u true) t = .next (t.addReply u .request (.ok (.identity identity) [])))

/-- The clock: a tick reaches the next reading and makes a radio frame due, and stands at its maximum while seconds still pass; CLOCK-SET takes a
reading, makes the next radio frame due under it (log 34, DEDUCED), is answered with both, and leaves no guest's expiry and no lag report that it passed over untaken (R11, R82, R142, R187). -/
def Obligations.ClockTicksAndJumps : Prop :=
  (∀ (s : State), s.power = .running → (s.now < 4294967295 → exec .branchClockTick s = .next { s with
      msp := { s.msp with clock := ⟨s.now + 1, s.msp.clock.isSet, s.elapsed + 1⟩ }, lrc := { s.lrc with frameDue := true } }) ∧
    (s.now = 4294967295 → exec .branchClockTick s = .next { s with
      msp := { s.msp with clock := ⟨s.now, s.msp.clock.isSet, s.elapsed + 1⟩ } })) ∧
  (∀ (tag n : Nat) (s : State), s.canTake = true → ∃ t, exec (.clockSet tag (some n)) s = .next t ∧
    t.msp.clock = ⟨n, true, s.elapsed⟩ ∧ t.msp.replies = s.msp.replies ++ [⟨tag, .ok (.clock s.now n) [], .request⟩] ∧
    t.lrc.frameDue = true ∧ t.jnl = s.jnl ∧ t.uls = s.uls ∧
    (s.guestsOrdered → ∀ hw g, t.guest hw = some g → (g.state = .admitted ∨ g.state = .idle ∨ g.state = .throttled) →
      ∀ x, g.expiresAt = some x → n < x) ∧
    (s.itemsOrdered → ∀ c r, t.item c = some r → r.lagDue n t.itb.lagLimit = false))

/-- Starts and the loss of power. The check word brings the sum of the covered state to 0. A power-on or a RESET WARM whose retained check is
absent or fails, and every RESET COLD, come up as State.reset does, but for the clock's seconds, STARTED, and the fault 501 of a failed check;
a warm start keeps what is retained, loses what is volatile and reports STARTED first (R184, R188 to R190, and each block's start). What the
memory gives back and what is summed are log 25, an absent check at a RESET WARM log 39 (DEDUCED), the seconds carried over a start log 35, and
what is kept through a loss of power log 23 (DESIGN CHOICE). -/
def Obligations.StartsAndPowerLoss : Prop :=
  ∀ (mem : MemFaults) (s : State),
    (s.msp.checkWritten = true → ∃ w, s.checkWord = some w ∧ w < 65536 ∧ (wordSum (Config.retainedOctets s.retained) + w) % 65536 = 0) ∧
    (∀ (c : Instr) (cause : StartCause) (result : RetainedResult) (memory : RetainedMemory),
      ((s.msp.checkWritten = false ∨ memory = .lost) ∧
        ((s.power = .off ∧ c = .powerOn memory mem ∧ cause = .power) ∨
         (s.power = .resetting .warm ∧ c = .resetRequest memory mem ∧ cause = .resetWarm)) ∧ result = .absent) ∨
      (s.power = .resetting .cold ∧ c = .resetRequest memory mem ∧ cause = .resetCold ∧ result = .notChecked) →
      exec c s = .next { State.reset with
        msp := { State.reset.msp with
          reports := [⟨0, .started .cold cause result 0 false⟩], clock := ⟨0, false, s.elapsed⟩ }
        free := s.free, pending := s.pending }) ∧
    (∀ (c : Instr) (cause : StartCause) (part : RetainedPart), s.msp.checkWritten = true →
      ((s.power = .off ∧ c = .powerOn (.damaged part) mem ∧ cause = .power) ∨
       (s.power = .resetting .warm ∧ c = .resetRequest (.damaged part) mem ∧ cause = .resetWarm)) →
      exec c s = .next { State.reset with
        msp := { State.reset.msp with
          reports := [⟨0, .started .cold cause .failed 0 false⟩, ⟨0, .fault .memory 501 1 0 (.retainedPart part)⟩]
          memory := ⟨1, some ⟨501, 0, .retainedPart part, 0⟩⟩, clock := ⟨0, false, s.elapsed⟩ }
        free := s.free, pending := s.pending }) ∧
    (∀ c, s.msp.checkWritten = true →
      (s.power = .off ∧ c = .powerOn .kept mem) ∨ (s.power = .resetting .warm ∧ c = .resetRequest .kept mem) →
      (s.xce.cutover.state = .none ∨ s.xce.cutover.state = .apply) →
      ∃ t, exec c s = .next t ∧ t.power = .running ∧ t.itb.epoch = s.itb.epoch ∧ t.itb.rates = s.itb.rates ∧
        (∀ code, (t.item code).map (·.current) = (s.item code).map (·.current)) ∧ t.tsu.roster = s.tsu.roster ∧
        (∀ lane, laneOk lane = true → (t.session lane).state = .absent ∧ (t.basket lane).sequence = (s.basket lane).sequence) ∧
        t.jnl.mark = s.jnl.mark ∧ t.jnl.limit = none ∧ t.lrc.rails = s.lrc.rails ∧ t.lrc.frame = none ∧
        (∀ e ∈ t.lrc.directory, e.state ≠ .sent) ∧ t.tps.slots.map (·.content) = s.tps.slots.map (·.content) ∧ t.tps.definition = none ∧
        t.zfw.ranges = s.zfw.ranges ∧ t.zfw.policy = s.zfw.policy ∧ (∀ p, t.zfw.fifo p = []) ∧ t.gat = State.reset.gat ∧
        t.uls.day = s.uls.day ∧ t.uls.night = s.uls.night ∧ (∀ q, (t.uls.queue q).frames = []) ∧
        t.xce.session.state = .idle ∧ t.xce.staging = [] ∧ t.xce.counter = s.xce.counter ∧ t.xce.blockSize = s.xce.blockSize ∧
        t.msp.replies = [] ∧ t.msp.clock = s.msp.clock ∧ t.msp.checkWritten = true ∧
        t.msp.reports.head?.map (·.body) = some (.started (if s.power = .off then .warm else .resetWarm)
          (if s.power = .off then .power else .resetWarm) .passed s.now s.msp.clock.isSet)) ∧
    (∃ t, exec .mainPowerLoss s = .next t ∧ t.power = .off ∧ t.itb = s.itb ∧ t.jnl.records = s.jnl.records ∧ t.jnl.mark = s.jnl.mark ∧
      t.lrc = s.lrc ∧ t.tps.slots.map (·.content) = s.tps.slots.map (·.content) ∧ t.zfw.ranges = s.zfw.ranges ∧ t.gat.sessions = [] ∧
      t.xce = s.xce ∧ t.msp.replies = [] ∧ t.msp.reports = [] ∧ t.msp.clock = s.msp.clock ∧
      t.msp.checkWritten = s.msp.checkWritten ∧ t.out = Outputs.none)
end

