-- ==== Sys2Proof/Laws/Arith.lean ====
section
/-! SUPPORT. What the shared arithmetic and the keyed tables do, said once. -/

namespace Sys2Proof.Machine

theorem bump_le (top n : Nat) : bump top n ≤ top := by unfold bump; split <;> omega

theorem addCap_le (top n k : Nat) : addCap top n k ≤ top := by unfold addCap; split <;> omega

theorem clamp_ge {lo hi : Nat} (h : lo ≤ hi) (n : Nat) : lo ≤ clamp lo hi n := by unfold clamp; split <;> (try split) <;> omega

theorem clamp_le {lo hi : Nat} (h : lo ≤ hi) (n : Nat) : clamp lo hi n ≤ hi := by unfold clamp; split <;> (try split) <;> omega

theorem clamp_of_mem {lo hi n : Nat} (h1 : lo ≤ n) (h2 : n ≤ hi) : clamp lo hi n = n := by
  unfold clamp; split <;> (try split) <;> omega

/-- The rounded quotient is nearest, half up (R24). -/
theorem roundDiv_spec (x y : Nat) (hy : 0 < y) : 2 * y * roundDiv x y ≤ 2 * x + y ∧ 2 * x < 2 * y * roundDiv x y + y := by
  have h := Nat.div_add_mod x y
  have hm := Nat.mod_lt x hy
  unfold roundDiv
  split
  · have e : 2 * y * (x / y + 1) = 2 * (y * (x / y)) + 2 * y := by ring
    omega
  · have e : 2 * y * (x / y) = 2 * (y * (x / y)) := by ring
    omega

variable {α : Type}

@[simp] theorem tget_tset_same {n : Nat} (v : Vector α n) (i : Nat) (x d : α) (h : i < n) : tget (tset v i x) i d = x := by
  simp [tget, tset, h]

@[simp] theorem tget_tset_ne {n : Nat} (v : Vector α n) (i j : Nat) (x d : α) (h : i ≠ j) : tget (tset v i x) j d = tget v j d := by
  simp [tget, tset, h]

theorem tset_out {n : Nat} (v : Vector α n) (i : Nat) (x : α) (h : n ≤ i) : tset v i x = v := by
  ext j hj
  simp only [tset]
  rw [Vector.getElem_setIfInBounds]
  split
  · omega
  · rfl

variable (key : α → Nat)

theorem findKey_key {k : Nat} {l : List α} {x : α} (h : findKey key k l = some x) : key x = k := by
  simpa using List.find?_some h

/-- An entry put at its key is the one found there. -/
@[simp] theorem findKey_putKey_same (x : α) (l : List α) : findKey key (key x) (putKey key x l) = some x := by
  induction l with
  | nil => simp [putKey, findKey]
  | cons y ys ih =>
    simp only [putKey]
    split
    · simp [findKey]
    · split
      · simp [findKey]
      · rename_i h1 h2
        have : (key y == key x) = false := by simpa using fun e => h2 e.symm
        simpa [findKey, this] using ih

/-- Every other key finds what it found. -/
theorem findKey_putKey_ne (x : α) (l : List α) {k : Nat} (h : k ≠ key x) : findKey key k (putKey key x l) = findKey key k l := by
  have hx : (key x == k) = false := by simpa using fun e => h e.symm
  induction l with
  | nil => simp [putKey, findKey, hx]
  | cons y ys ih =>
    simp only [putKey]
    split
    · simp [findKey, hx]
    · split
      · rename_i h2
        have hy : (key y == k) = false := by rw [← h2]; exact hx
        simp [findKey, hx, hy]
      · simp only [findKey, List.find?_cons] at ih ⊢
        split
        · rfl
        · exact ih

/-- A key taken away finds nothing. -/
@[simp] theorem findKey_dropKey_same (k : Nat) (l : List α) : findKey key k (dropKey key k l) = none := by
  simp [findKey, dropKey]

/-- Every other key finds what it found. -/
theorem findKey_dropKey_ne (l : List α) {k j : Nat} (h : k ≠ j) : findKey key k (dropKey key j l) = findKey key k l := by
  induction l with
  | nil => simp [dropKey, findKey]
  | cons y ys ih =>
    simp only [findKey, dropKey] at ih ⊢
    by_cases hj : key y = j
    · have hk : (key y == k) = false := by simpa [hj] using fun e => h e.symm
      rw [List.filter_cons_of_neg (by simp [hj]), ih, List.find?_cons, hk]
    · simp only [List.filter_cons, hj, bne_iff_ne, ne_eq, not_false_eq_true, ↓reduceIte, List.find?_cons]
      split
      · rfl
      · exact ih

/-- A table put in order stays in order: strictly rising keys. -/
theorem putKey_sorted (x : α) (l : List α) (h : l.Pairwise fun a b => key a < key b) :
    (putKey key x l).Pairwise fun a b => key a < key b := by
  have mem : ∀ {y} {l : List α}, y ∈ putKey key x l → y = x ∨ y ∈ l := by
    intro y l
    induction l with
    | nil => simp [putKey]
    | cons z zs ih =>
      simp only [putKey]
      split
      · simp
      · split
        · simp; tauto
        · simp; tauto
  induction l with
  | nil => simp [putKey]
  | cons y ys ih =>
    have hy := List.pairwise_cons.mp h
    simp only [putKey]
    split
    · refine List.pairwise_cons.mpr ⟨fun z hz => ?_, h⟩
      rcases List.mem_cons.mp hz with rfl | hz
      · assumption
      · have := hy.1 z hz; omega
    · split
      · rename_i h2
        exact List.pairwise_cons.mpr ⟨fun z hz => by have := hy.1 z hz; omega, hy.2⟩
      · refine List.pairwise_cons.mpr ⟨fun z hz => ?_, ih hy.2⟩
        rcases mem hz with rfl | hz
        · omega
        · exact hy.1 z hz

theorem dropKey_sorted (k : Nat) (l : List α) (h : l.Pairwise fun a b => key a < key b) :
    (dropKey key k l).Pairwise fun a b => key a < key b := h.sublist List.filter_sublist

/-- Putting an entry makes a table at most one longer. -/
theorem putKey_length_le (x : α) (l : List α) : (putKey key x l).length ≤ l.length + 1 := by
  induction l with
  | nil => simp [putKey]
  | cons y ys ih =>
    simp only [putKey]
    split
    · simp
    · split
      · simp
      · simp only [List.length_cons]; omega

theorem dropKey_length_le (k : Nat) (l : List α) : (dropKey key k l).length ≤ l.length := List.length_filter_le _ _

/-- Putting an entry whose key an ordered table holds makes it no longer. -/
theorem putKey_length_of_held (x : α) (l : List α) (h : l.Pairwise fun a b => key a < key b) {y : α}
    (hy : findKey key (key x) l = some y) : (putKey key x l).length = l.length := by
  induction l with
  | nil => simp [findKey] at hy
  | cons z zs ih =>
    have hz := List.pairwise_cons.mp h
    simp only [putKey]
    by_cases e : key z = key x
    · simp [e]
    · have hzx : (key z == key x) = false := by simpa using e
      have hy' : findKey key (key x) zs = some y := by simpa [findKey, hzx] using hy
      have hm : y ∈ zs := List.mem_of_find?_eq_some hy'
      have := hz.1 y hm
      have := findKey_key key hy'
      split
      · omega
      · split
        · simp
        · simp [ih hz.2 hy']

theorem bestBy_mem {α : Type} {before : α → α → Bool} {x : α} : ∀ {l : List α}, bestBy before l = some x → x ∈ l
  | y :: ys, h => by
    unfold bestBy at h
    split at h
    · simp_all
    · rename_i z hz
      have := bestBy_mem hz
      split at h <;> simp_all

end Sys2Proof.Machine
end

