-- ==== Sys2Proof/Laws/State.lean ====
section
/-! SUPPORT. Each named update of the state: what it leaves, field by field, true by `rfl`. -/

namespace Sys2Proof.Machine

variable (s : State)

/-! ### report -/

@[simp] theorem report_itb (b : ReportBody) : (s.report b).itb = s.itb := rfl
@[simp] theorem report_tsu (b : ReportBody) : (s.report b).tsu = s.tsu := rfl
@[simp] theorem report_jnl (b : ReportBody) : (s.report b).jnl = s.jnl := rfl
@[simp] theorem report_lrc (b : ReportBody) : (s.report b).lrc = s.lrc := rfl
@[simp] theorem report_tps (b : ReportBody) : (s.report b).tps = s.tps := rfl
@[simp] theorem report_zfw (b : ReportBody) : (s.report b).zfw = s.zfw := rfl
@[simp] theorem report_gat (b : ReportBody) : (s.report b).gat = s.gat := rfl
@[simp] theorem report_uls (b : ReportBody) : (s.report b).uls = s.uls := rfl
@[simp] theorem report_xce (b : ReportBody) : (s.report b).xce = s.xce := rfl
@[simp] theorem report_power (b : ReportBody) : (s.report b).power = s.power := rfl
@[simp] theorem report_out (b : ReportBody) : (s.report b).out = s.out := rfl
@[simp] theorem report_free (b : ReportBody) : (s.report b).free = s.free := rfl
@[simp] theorem report_pending (b : ReportBody) : (s.report b).pending = s.pending := rfl

/-! ### logFault -/

@[simp] theorem logFault_itb (d : FaultDomain) (code : Nat) (x : FaultDetail) : (s.logFault d code x).itb = s.itb := rfl
@[simp] theorem logFault_tsu (d : FaultDomain) (code : Nat) (x : FaultDetail) : (s.logFault d code x).tsu = s.tsu := rfl
@[simp] theorem logFault_jnl (d : FaultDomain) (code : Nat) (x : FaultDetail) : (s.logFault d code x).jnl = s.jnl := rfl
@[simp] theorem logFault_lrc (d : FaultDomain) (code : Nat) (x : FaultDetail) : (s.logFault d code x).lrc = s.lrc := rfl
@[simp] theorem logFault_tps (d : FaultDomain) (code : Nat) (x : FaultDetail) : (s.logFault d code x).tps = s.tps := rfl
@[simp] theorem logFault_zfw (d : FaultDomain) (code : Nat) (x : FaultDetail) : (s.logFault d code x).zfw = s.zfw := rfl
@[simp] theorem logFault_gat (d : FaultDomain) (code : Nat) (x : FaultDetail) : (s.logFault d code x).gat = s.gat := rfl
@[simp] theorem logFault_uls (d : FaultDomain) (code : Nat) (x : FaultDetail) : (s.logFault d code x).uls = s.uls := rfl
@[simp] theorem logFault_xce (d : FaultDomain) (code : Nat) (x : FaultDetail) : (s.logFault d code x).xce = s.xce := rfl
@[simp] theorem logFault_power (d : FaultDomain) (code : Nat) (x : FaultDetail) : (s.logFault d code x).power = s.power := rfl
@[simp] theorem logFault_out (d : FaultDomain) (code : Nat) (x : FaultDetail) : (s.logFault d code x).out = s.out := rfl
@[simp] theorem logFault_free (d : FaultDomain) (code : Nat) (x : FaultDetail) : (s.logFault d code x).free = s.free := rfl
@[simp] theorem logFault_pending (d : FaultDomain) (code : Nat) (x : FaultDetail) : (s.logFault d code x).pending = s.pending := rfl

/-! ### addReply -/

@[simp] theorem addReply_itb (tag : Nat) (p : ReplyPlace) (r : Reply) : (s.addReply tag p r).itb = s.itb := rfl
@[simp] theorem addReply_tsu (tag : Nat) (p : ReplyPlace) (r : Reply) : (s.addReply tag p r).tsu = s.tsu := rfl
@[simp] theorem addReply_jnl (tag : Nat) (p : ReplyPlace) (r : Reply) : (s.addReply tag p r).jnl = s.jnl := rfl
@[simp] theorem addReply_lrc (tag : Nat) (p : ReplyPlace) (r : Reply) : (s.addReply tag p r).lrc = s.lrc := rfl
@[simp] theorem addReply_tps (tag : Nat) (p : ReplyPlace) (r : Reply) : (s.addReply tag p r).tps = s.tps := rfl
@[simp] theorem addReply_zfw (tag : Nat) (p : ReplyPlace) (r : Reply) : (s.addReply tag p r).zfw = s.zfw := rfl
@[simp] theorem addReply_gat (tag : Nat) (p : ReplyPlace) (r : Reply) : (s.addReply tag p r).gat = s.gat := rfl
@[simp] theorem addReply_uls (tag : Nat) (p : ReplyPlace) (r : Reply) : (s.addReply tag p r).uls = s.uls := rfl
@[simp] theorem addReply_xce (tag : Nat) (p : ReplyPlace) (r : Reply) : (s.addReply tag p r).xce = s.xce := rfl
@[simp] theorem addReply_power (tag : Nat) (p : ReplyPlace) (r : Reply) : (s.addReply tag p r).power = s.power := rfl
@[simp] theorem addReply_out (tag : Nat) (p : ReplyPlace) (r : Reply) : (s.addReply tag p r).out = s.out := rfl
@[simp] theorem addReply_free (tag : Nat) (p : ReplyPlace) (r : Reply) : (s.addReply tag p r).free = s.free := rfl
@[simp] theorem addReply_pending (tag : Nat) (p : ReplyPlace) (r : Reply) : (s.addReply tag p r).pending = s.pending := rfl

/-! ### putItem -/

@[simp] theorem putItem_tsu (r : ItemRecord) : (s.putItem r).tsu = s.tsu := rfl
@[simp] theorem putItem_jnl (r : ItemRecord) : (s.putItem r).jnl = s.jnl := rfl
@[simp] theorem putItem_lrc (r : ItemRecord) : (s.putItem r).lrc = s.lrc := rfl
@[simp] theorem putItem_tps (r : ItemRecord) : (s.putItem r).tps = s.tps := rfl
@[simp] theorem putItem_zfw (r : ItemRecord) : (s.putItem r).zfw = s.zfw := rfl
@[simp] theorem putItem_gat (r : ItemRecord) : (s.putItem r).gat = s.gat := rfl
@[simp] theorem putItem_uls (r : ItemRecord) : (s.putItem r).uls = s.uls := rfl
@[simp] theorem putItem_xce (r : ItemRecord) : (s.putItem r).xce = s.xce := rfl
@[simp] theorem putItem_msp (r : ItemRecord) : (s.putItem r).msp = s.msp := rfl
@[simp] theorem putItem_power (r : ItemRecord) : (s.putItem r).power = s.power := rfl
@[simp] theorem putItem_out (r : ItemRecord) : (s.putItem r).out = s.out := rfl
@[simp] theorem putItem_free (r : ItemRecord) : (s.putItem r).free = s.free := rfl
@[simp] theorem putItem_pending (r : ItemRecord) : (s.putItem r).pending = s.pending := rfl

/-! ### dropItem -/

@[simp] theorem dropItem_tsu (c : Nat) : (s.dropItem c).tsu = s.tsu := rfl
@[simp] theorem dropItem_jnl (c : Nat) : (s.dropItem c).jnl = s.jnl := rfl
@[simp] theorem dropItem_lrc (c : Nat) : (s.dropItem c).lrc = s.lrc := rfl
@[simp] theorem dropItem_tps (c : Nat) : (s.dropItem c).tps = s.tps := rfl
@[simp] theorem dropItem_zfw (c : Nat) : (s.dropItem c).zfw = s.zfw := rfl
@[simp] theorem dropItem_gat (c : Nat) : (s.dropItem c).gat = s.gat := rfl
@[simp] theorem dropItem_uls (c : Nat) : (s.dropItem c).uls = s.uls := rfl
@[simp] theorem dropItem_xce (c : Nat) : (s.dropItem c).xce = s.xce := rfl
@[simp] theorem dropItem_msp (c : Nat) : (s.dropItem c).msp = s.msp := rfl
@[simp] theorem dropItem_power (c : Nat) : (s.dropItem c).power = s.power := rfl
@[simp] theorem dropItem_out (c : Nat) : (s.dropItem c).out = s.out := rfl
@[simp] theorem dropItem_free (c : Nat) : (s.dropItem c).free = s.free := rfl
@[simp] theorem dropItem_pending (c : Nat) : (s.dropItem c).pending = s.pending := rfl

/-! ### onLrc -/

@[simp] theorem onLrc_itb (f : LabelRadio → LabelRadio) : (s.onLrc f).itb = s.itb := rfl
@[simp] theorem onLrc_tsu (f : LabelRadio → LabelRadio) : (s.onLrc f).tsu = s.tsu := rfl
@[simp] theorem onLrc_jnl (f : LabelRadio → LabelRadio) : (s.onLrc f).jnl = s.jnl := rfl
@[simp] theorem onLrc_tps (f : LabelRadio → LabelRadio) : (s.onLrc f).tps = s.tps := rfl
@[simp] theorem onLrc_zfw (f : LabelRadio → LabelRadio) : (s.onLrc f).zfw = s.zfw := rfl
@[simp] theorem onLrc_gat (f : LabelRadio → LabelRadio) : (s.onLrc f).gat = s.gat := rfl
@[simp] theorem onLrc_uls (f : LabelRadio → LabelRadio) : (s.onLrc f).uls = s.uls := rfl
@[simp] theorem onLrc_xce (f : LabelRadio → LabelRadio) : (s.onLrc f).xce = s.xce := rfl
@[simp] theorem onLrc_msp (f : LabelRadio → LabelRadio) : (s.onLrc f).msp = s.msp := rfl
@[simp] theorem onLrc_power (f : LabelRadio → LabelRadio) : (s.onLrc f).power = s.power := rfl
@[simp] theorem onLrc_out (f : LabelRadio → LabelRadio) : (s.onLrc f).out = s.out := rfl
@[simp] theorem onLrc_free (f : LabelRadio → LabelRadio) : (s.onLrc f).free = s.free := rfl
@[simp] theorem onLrc_pending (f : LabelRadio → LabelRadio) : (s.onLrc f).pending = s.pending := rfl

/-! ### setSession -/

@[simp] theorem setSession_itb (lane : Nat) (x : Session) : (s.setSession lane x).itb = s.itb := rfl
@[simp] theorem setSession_jnl (lane : Nat) (x : Session) : (s.setSession lane x).jnl = s.jnl := rfl
@[simp] theorem setSession_lrc (lane : Nat) (x : Session) : (s.setSession lane x).lrc = s.lrc := rfl
@[simp] theorem setSession_tps (lane : Nat) (x : Session) : (s.setSession lane x).tps = s.tps := rfl
@[simp] theorem setSession_zfw (lane : Nat) (x : Session) : (s.setSession lane x).zfw = s.zfw := rfl
@[simp] theorem setSession_gat (lane : Nat) (x : Session) : (s.setSession lane x).gat = s.gat := rfl
@[simp] theorem setSession_uls (lane : Nat) (x : Session) : (s.setSession lane x).uls = s.uls := rfl
@[simp] theorem setSession_xce (lane : Nat) (x : Session) : (s.setSession lane x).xce = s.xce := rfl
@[simp] theorem setSession_msp (lane : Nat) (x : Session) : (s.setSession lane x).msp = s.msp := rfl
@[simp] theorem setSession_power (lane : Nat) (x : Session) : (s.setSession lane x).power = s.power := rfl
@[simp] theorem setSession_out (lane : Nat) (x : Session) : (s.setSession lane x).out = s.out := rfl
@[simp] theorem setSession_free (lane : Nat) (x : Session) : (s.setSession lane x).free = s.free := rfl
@[simp] theorem setSession_pending (lane : Nat) (x : Session) : (s.setSession lane x).pending = s.pending := rfl

/-! ### setBasket -/

@[simp] theorem setBasket_itb (lane : Nat) (b : Basket) : (s.setBasket lane b).itb = s.itb := rfl
@[simp] theorem setBasket_jnl (lane : Nat) (b : Basket) : (s.setBasket lane b).jnl = s.jnl := rfl
@[simp] theorem setBasket_lrc (lane : Nat) (b : Basket) : (s.setBasket lane b).lrc = s.lrc := rfl
@[simp] theorem setBasket_tps (lane : Nat) (b : Basket) : (s.setBasket lane b).tps = s.tps := rfl
@[simp] theorem setBasket_zfw (lane : Nat) (b : Basket) : (s.setBasket lane b).zfw = s.zfw := rfl
@[simp] theorem setBasket_gat (lane : Nat) (b : Basket) : (s.setBasket lane b).gat = s.gat := rfl
@[simp] theorem setBasket_uls (lane : Nat) (b : Basket) : (s.setBasket lane b).uls = s.uls := rfl
@[simp] theorem setBasket_xce (lane : Nat) (b : Basket) : (s.setBasket lane b).xce = s.xce := rfl
@[simp] theorem setBasket_msp (lane : Nat) (b : Basket) : (s.setBasket lane b).msp = s.msp := rfl
@[simp] theorem setBasket_power (lane : Nat) (b : Basket) : (s.setBasket lane b).power = s.power := rfl
@[simp] theorem setBasket_out (lane : Nat) (b : Basket) : (s.setBasket lane b).out = s.out := rfl
@[simp] theorem setBasket_free (lane : Nat) (b : Basket) : (s.setBasket lane b).free = s.free := rfl
@[simp] theorem setBasket_pending (lane : Nat) (b : Basket) : (s.setBasket lane b).pending = s.pending := rfl

/-! ### sendLane -/

@[simp] theorem sendLane_itb (st : HwAddr) (ms : List LaneMessage) : (sendLane st ms s).itb = s.itb := rfl
@[simp] theorem sendLane_jnl (st : HwAddr) (ms : List LaneMessage) : (sendLane st ms s).jnl = s.jnl := rfl
@[simp] theorem sendLane_lrc (st : HwAddr) (ms : List LaneMessage) : (sendLane st ms s).lrc = s.lrc := rfl
@[simp] theorem sendLane_tps (st : HwAddr) (ms : List LaneMessage) : (sendLane st ms s).tps = s.tps := rfl
@[simp] theorem sendLane_zfw (st : HwAddr) (ms : List LaneMessage) : (sendLane st ms s).zfw = s.zfw := rfl
@[simp] theorem sendLane_gat (st : HwAddr) (ms : List LaneMessage) : (sendLane st ms s).gat = s.gat := rfl
@[simp] theorem sendLane_uls (st : HwAddr) (ms : List LaneMessage) : (sendLane st ms s).uls = s.uls := rfl
@[simp] theorem sendLane_xce (st : HwAddr) (ms : List LaneMessage) : (sendLane st ms s).xce = s.xce := rfl
@[simp] theorem sendLane_msp (st : HwAddr) (ms : List LaneMessage) : (sendLane st ms s).msp = s.msp := rfl
@[simp] theorem sendLane_power (st : HwAddr) (ms : List LaneMessage) : (sendLane st ms s).power = s.power := rfl
@[simp] theorem sendLane_out (st : HwAddr) (ms : List LaneMessage) : (sendLane st ms s).out = s.out := rfl
@[simp] theorem sendLane_free (st : HwAddr) (ms : List LaneMessage) : (sendLane st ms s).free = s.free := rfl
@[simp] theorem sendLane_pending (st : HwAddr) (ms : List LaneMessage) : (sendLane st ms s).pending = s.pending := rfl

/-! ### onSession -/

@[simp] theorem onSession_itb (f : ExchangeSession → ExchangeSession) : (s.onSession f).itb = s.itb := rfl
@[simp] theorem onSession_tsu (f : ExchangeSession → ExchangeSession) : (s.onSession f).tsu = s.tsu := rfl
@[simp] theorem onSession_jnl (f : ExchangeSession → ExchangeSession) : (s.onSession f).jnl = s.jnl := rfl
@[simp] theorem onSession_lrc (f : ExchangeSession → ExchangeSession) : (s.onSession f).lrc = s.lrc := rfl
@[simp] theorem onSession_tps (f : ExchangeSession → ExchangeSession) : (s.onSession f).tps = s.tps := rfl
@[simp] theorem onSession_zfw (f : ExchangeSession → ExchangeSession) : (s.onSession f).zfw = s.zfw := rfl
@[simp] theorem onSession_gat (f : ExchangeSession → ExchangeSession) : (s.onSession f).gat = s.gat := rfl
@[simp] theorem onSession_uls (f : ExchangeSession → ExchangeSession) : (s.onSession f).uls = s.uls := rfl
@[simp] theorem onSession_msp (f : ExchangeSession → ExchangeSession) : (s.onSession f).msp = s.msp := rfl
@[simp] theorem onSession_power (f : ExchangeSession → ExchangeSession) : (s.onSession f).power = s.power := rfl
@[simp] theorem onSession_out (f : ExchangeSession → ExchangeSession) : (s.onSession f).out = s.out := rfl
@[simp] theorem onSession_free (f : ExchangeSession → ExchangeSession) : (s.onSession f).free = s.free := rfl
@[simp] theorem onSession_pending (f : ExchangeSession → ExchangeSession) : (s.onSession f).pending = s.pending := rfl

/-! ### onCutover -/

@[simp] theorem onCutover_itb (f : Cutover → Cutover) : (s.onCutover f).itb = s.itb := rfl
@[simp] theorem onCutover_tsu (f : Cutover → Cutover) : (s.onCutover f).tsu = s.tsu := rfl
@[simp] theorem onCutover_jnl (f : Cutover → Cutover) : (s.onCutover f).jnl = s.jnl := rfl
@[simp] theorem onCutover_lrc (f : Cutover → Cutover) : (s.onCutover f).lrc = s.lrc := rfl
@[simp] theorem onCutover_tps (f : Cutover → Cutover) : (s.onCutover f).tps = s.tps := rfl
@[simp] theorem onCutover_zfw (f : Cutover → Cutover) : (s.onCutover f).zfw = s.zfw := rfl
@[simp] theorem onCutover_gat (f : Cutover → Cutover) : (s.onCutover f).gat = s.gat := rfl
@[simp] theorem onCutover_uls (f : Cutover → Cutover) : (s.onCutover f).uls = s.uls := rfl
@[simp] theorem onCutover_msp (f : Cutover → Cutover) : (s.onCutover f).msp = s.msp := rfl
@[simp] theorem onCutover_power (f : Cutover → Cutover) : (s.onCutover f).power = s.power := rfl
@[simp] theorem onCutover_out (f : Cutover → Cutover) : (s.onCutover f).out = s.out := rfl
@[simp] theorem onCutover_free (f : Cutover → Cutover) : (s.onCutover f).free = s.free := rfl
@[simp] theorem onCutover_pending (f : Cutover → Cutover) : (s.onCutover f).pending = s.pending := rfl

/-! ### setWalk -/

@[simp] theorem setWalk_itb (w : Option Walk) : (s.setWalk w).itb = s.itb := rfl
@[simp] theorem setWalk_tsu (w : Option Walk) : (s.setWalk w).tsu = s.tsu := rfl
@[simp] theorem setWalk_jnl (w : Option Walk) : (s.setWalk w).jnl = s.jnl := rfl
@[simp] theorem setWalk_lrc (w : Option Walk) : (s.setWalk w).lrc = s.lrc := rfl
@[simp] theorem setWalk_tps (w : Option Walk) : (s.setWalk w).tps = s.tps := rfl
@[simp] theorem setWalk_zfw (w : Option Walk) : (s.setWalk w).zfw = s.zfw := rfl
@[simp] theorem setWalk_gat (w : Option Walk) : (s.setWalk w).gat = s.gat := rfl
@[simp] theorem setWalk_uls (w : Option Walk) : (s.setWalk w).uls = s.uls := rfl
@[simp] theorem setWalk_msp (w : Option Walk) : (s.setWalk w).msp = s.msp := rfl
@[simp] theorem setWalk_power (w : Option Walk) : (s.setWalk w).power = s.power := rfl
@[simp] theorem setWalk_out (w : Option Walk) : (s.setWalk w).out = s.out := rfl
@[simp] theorem setWalk_free (w : Option Walk) : (s.setWalk w).free = s.free := rfl
@[simp] theorem setWalk_pending (w : Option Walk) : (s.setWalk w).pending = s.pending := rfl

/-! ### onCounts -/

@[simp] theorem onCounts_itb (f : ForwardCounts → ForwardCounts) : (s.onCounts f).itb = s.itb := rfl
@[simp] theorem onCounts_tsu (f : ForwardCounts → ForwardCounts) : (s.onCounts f).tsu = s.tsu := rfl
@[simp] theorem onCounts_jnl (f : ForwardCounts → ForwardCounts) : (s.onCounts f).jnl = s.jnl := rfl
@[simp] theorem onCounts_lrc (f : ForwardCounts → ForwardCounts) : (s.onCounts f).lrc = s.lrc := rfl
@[simp] theorem onCounts_tps (f : ForwardCounts → ForwardCounts) : (s.onCounts f).tps = s.tps := rfl
@[simp] theorem onCounts_gat (f : ForwardCounts → ForwardCounts) : (s.onCounts f).gat = s.gat := rfl
@[simp] theorem onCounts_uls (f : ForwardCounts → ForwardCounts) : (s.onCounts f).uls = s.uls := rfl
@[simp] theorem onCounts_xce (f : ForwardCounts → ForwardCounts) : (s.onCounts f).xce = s.xce := rfl
@[simp] theorem onCounts_msp (f : ForwardCounts → ForwardCounts) : (s.onCounts f).msp = s.msp := rfl
@[simp] theorem onCounts_power (f : ForwardCounts → ForwardCounts) : (s.onCounts f).power = s.power := rfl
@[simp] theorem onCounts_out (f : ForwardCounts → ForwardCounts) : (s.onCounts f).out = s.out := rfl
@[simp] theorem onCounts_free (f : ForwardCounts → ForwardCounts) : (s.onCounts f).free = s.free := rfl
@[simp] theorem onCounts_pending (f : ForwardCounts → ForwardCounts) : (s.onCounts f).pending = s.pending := rfl

/-! ### putGuest -/

@[simp] theorem putGuest_itb (g : GuestSession) : (s.putGuest g).itb = s.itb := rfl
@[simp] theorem putGuest_tsu (g : GuestSession) : (s.putGuest g).tsu = s.tsu := rfl
@[simp] theorem putGuest_jnl (g : GuestSession) : (s.putGuest g).jnl = s.jnl := rfl
@[simp] theorem putGuest_lrc (g : GuestSession) : (s.putGuest g).lrc = s.lrc := rfl
@[simp] theorem putGuest_tps (g : GuestSession) : (s.putGuest g).tps = s.tps := rfl
@[simp] theorem putGuest_zfw (g : GuestSession) : (s.putGuest g).zfw = s.zfw := rfl
@[simp] theorem putGuest_uls (g : GuestSession) : (s.putGuest g).uls = s.uls := rfl
@[simp] theorem putGuest_xce (g : GuestSession) : (s.putGuest g).xce = s.xce := rfl
@[simp] theorem putGuest_msp (g : GuestSession) : (s.putGuest g).msp = s.msp := rfl
@[simp] theorem putGuest_power (g : GuestSession) : (s.putGuest g).power = s.power := rfl
@[simp] theorem putGuest_out (g : GuestSession) : (s.putGuest g).out = s.out := rfl
@[simp] theorem putGuest_free (g : GuestSession) : (s.putGuest g).free = s.free := rfl
@[simp] theorem putGuest_pending (g : GuestSession) : (s.putGuest g).pending = s.pending := rfl

/-! ### dropGuest -/

@[simp] theorem dropGuest_itb (h : HwAddr) : (s.dropGuest h).itb = s.itb := rfl
@[simp] theorem dropGuest_tsu (h : HwAddr) : (s.dropGuest h).tsu = s.tsu := rfl
@[simp] theorem dropGuest_jnl (h : HwAddr) : (s.dropGuest h).jnl = s.jnl := rfl
@[simp] theorem dropGuest_lrc (h : HwAddr) : (s.dropGuest h).lrc = s.lrc := rfl
@[simp] theorem dropGuest_tps (h : HwAddr) : (s.dropGuest h).tps = s.tps := rfl
@[simp] theorem dropGuest_zfw (h : HwAddr) : (s.dropGuest h).zfw = s.zfw := rfl
@[simp] theorem dropGuest_uls (h : HwAddr) : (s.dropGuest h).uls = s.uls := rfl
@[simp] theorem dropGuest_xce (h : HwAddr) : (s.dropGuest h).xce = s.xce := rfl
@[simp] theorem dropGuest_msp (h : HwAddr) : (s.dropGuest h).msp = s.msp := rfl
@[simp] theorem dropGuest_power (h : HwAddr) : (s.dropGuest h).power = s.power := rfl
@[simp] theorem dropGuest_out (h : HwAddr) : (s.dropGuest h).out = s.out := rfl
@[simp] theorem dropGuest_free (h : HwAddr) : (s.dropGuest h).free = s.free := rfl
@[simp] theorem dropGuest_pending (h : HwAddr) : (s.dropGuest h).pending = s.pending := rfl

/-! ### guestDrop -/

@[simp] theorem guestDrop_itb (d : GuestDrop) : (s.guestDrop d).itb = s.itb := rfl
@[simp] theorem guestDrop_tsu (d : GuestDrop) : (s.guestDrop d).tsu = s.tsu := rfl
@[simp] theorem guestDrop_jnl (d : GuestDrop) : (s.guestDrop d).jnl = s.jnl := rfl
@[simp] theorem guestDrop_lrc (d : GuestDrop) : (s.guestDrop d).lrc = s.lrc := rfl
@[simp] theorem guestDrop_tps (d : GuestDrop) : (s.guestDrop d).tps = s.tps := rfl
@[simp] theorem guestDrop_zfw (d : GuestDrop) : (s.guestDrop d).zfw = s.zfw := rfl
@[simp] theorem guestDrop_uls (d : GuestDrop) : (s.guestDrop d).uls = s.uls := rfl
@[simp] theorem guestDrop_xce (d : GuestDrop) : (s.guestDrop d).xce = s.xce := rfl
@[simp] theorem guestDrop_msp (d : GuestDrop) : (s.guestDrop d).msp = s.msp := rfl
@[simp] theorem guestDrop_power (d : GuestDrop) : (s.guestDrop d).power = s.power := rfl
@[simp] theorem guestDrop_out (d : GuestDrop) : (s.guestDrop d).out = s.out := rfl
@[simp] theorem guestDrop_free (d : GuestDrop) : (s.guestDrop d).free = s.free := rfl
@[simp] theorem guestDrop_pending (d : GuestDrop) : (s.guestDrop d).pending = s.pending := rfl

/-! ### sendHost -/

@[simp] theorem sendHost_itb (f : HostFrame) : (sendHost f s).itb = s.itb := rfl
@[simp] theorem sendHost_tsu (f : HostFrame) : (sendHost f s).tsu = s.tsu := rfl
@[simp] theorem sendHost_jnl (f : HostFrame) : (sendHost f s).jnl = s.jnl := rfl
@[simp] theorem sendHost_lrc (f : HostFrame) : (sendHost f s).lrc = s.lrc := rfl
@[simp] theorem sendHost_tps (f : HostFrame) : (sendHost f s).tps = s.tps := rfl
@[simp] theorem sendHost_zfw (f : HostFrame) : (sendHost f s).zfw = s.zfw := rfl
@[simp] theorem sendHost_gat (f : HostFrame) : (sendHost f s).gat = s.gat := rfl
@[simp] theorem sendHost_uls (f : HostFrame) : (sendHost f s).uls = s.uls := rfl
@[simp] theorem sendHost_xce (f : HostFrame) : (sendHost f s).xce = s.xce := rfl
@[simp] theorem sendHost_msp (f : HostFrame) : (sendHost f s).msp = s.msp := rfl
@[simp] theorem sendHost_power (f : HostFrame) : (sendHost f s).power = s.power := rfl
@[simp] theorem sendHost_free (f : HostFrame) : (sendHost f s).free = s.free := rfl
@[simp] theorem sendHost_pending (f : HostFrame) : (sendHost f s).pending = s.pending := rfl

/-! ### profileNotice -/

@[simp] theorem profileNotice_itb (p : ProfileName) : (profileNotice p s).itb = s.itb := rfl
@[simp] theorem profileNotice_tsu (p : ProfileName) : (profileNotice p s).tsu = s.tsu := rfl
@[simp] theorem profileNotice_jnl (p : ProfileName) : (profileNotice p s).jnl = s.jnl := rfl
@[simp] theorem profileNotice_lrc (p : ProfileName) : (profileNotice p s).lrc = s.lrc := rfl
@[simp] theorem profileNotice_tps (p : ProfileName) : (profileNotice p s).tps = s.tps := rfl
@[simp] theorem profileNotice_zfw (p : ProfileName) : (profileNotice p s).zfw = s.zfw := rfl
@[simp] theorem profileNotice_gat (p : ProfileName) : (profileNotice p s).gat = s.gat := rfl
@[simp] theorem profileNotice_xce (p : ProfileName) : (profileNotice p s).xce = s.xce := rfl
@[simp] theorem profileNotice_msp (p : ProfileName) : (profileNotice p s).msp = s.msp := rfl
@[simp] theorem profileNotice_power (p : ProfileName) : (profileNotice p s).power = s.power := rfl
@[simp] theorem profileNotice_out (p : ProfileName) : (profileNotice p s).out = s.out := rfl
@[simp] theorem profileNotice_free (p : ProfileName) : (profileNotice p s).free = s.free := rfl
@[simp] theorem profileNotice_pending (p : ProfileName) : (profileNotice p s).pending = s.pending := rfl

/-! ### openLimit -/

@[simp] theorem openLimit_itb : (openLimit s).itb = s.itb := rfl
@[simp] theorem openLimit_tsu : (openLimit s).tsu = s.tsu := rfl
@[simp] theorem openLimit_lrc : (openLimit s).lrc = s.lrc := rfl
@[simp] theorem openLimit_tps : (openLimit s).tps = s.tps := rfl
@[simp] theorem openLimit_zfw : (openLimit s).zfw = s.zfw := rfl
@[simp] theorem openLimit_gat : (openLimit s).gat = s.gat := rfl
@[simp] theorem openLimit_uls : (openLimit s).uls = s.uls := rfl
@[simp] theorem openLimit_xce : (openLimit s).xce = s.xce := rfl
@[simp] theorem openLimit_msp : (openLimit s).msp = s.msp := rfl
@[simp] theorem openLimit_power : (openLimit s).power = s.power := rfl
@[simp] theorem openLimit_out : (openLimit s).out = s.out := rfl
@[simp] theorem openLimit_free : (openLimit s).free = s.free := rfl
@[simp] theorem openLimit_pending : (openLimit s).pending = s.pending := rfl

/-! ### clearLimit -/

@[simp] theorem clearLimit_itb : (clearLimit s).itb = s.itb := rfl
@[simp] theorem clearLimit_tsu : (clearLimit s).tsu = s.tsu := rfl
@[simp] theorem clearLimit_lrc : (clearLimit s).lrc = s.lrc := rfl
@[simp] theorem clearLimit_tps : (clearLimit s).tps = s.tps := rfl
@[simp] theorem clearLimit_zfw : (clearLimit s).zfw = s.zfw := rfl
@[simp] theorem clearLimit_gat : (clearLimit s).gat = s.gat := rfl
@[simp] theorem clearLimit_uls : (clearLimit s).uls = s.uls := rfl
@[simp] theorem clearLimit_xce : (clearLimit s).xce = s.xce := rfl
@[simp] theorem clearLimit_msp : (clearLimit s).msp = s.msp := rfl
@[simp] theorem clearLimit_power : (clearLimit s).power = s.power := rfl
@[simp] theorem clearLimit_out : (clearLimit s).out = s.out := rfl
@[simp] theorem clearLimit_free : (clearLimit s).free = s.free := rfl
@[simp] theorem clearLimit_pending : (clearLimit s).pending = s.pending := rfl

/-! ### setRange -/

@[simp] theorem setRange_itb (i : Nat) (e : RangeEntry) : (setRange i e s).itb = s.itb := rfl
@[simp] theorem setRange_tsu (i : Nat) (e : RangeEntry) : (setRange i e s).tsu = s.tsu := rfl
@[simp] theorem setRange_jnl (i : Nat) (e : RangeEntry) : (setRange i e s).jnl = s.jnl := rfl
@[simp] theorem setRange_lrc (i : Nat) (e : RangeEntry) : (setRange i e s).lrc = s.lrc := rfl
@[simp] theorem setRange_tps (i : Nat) (e : RangeEntry) : (setRange i e s).tps = s.tps := rfl
@[simp] theorem setRange_gat (i : Nat) (e : RangeEntry) : (setRange i e s).gat = s.gat := rfl
@[simp] theorem setRange_uls (i : Nat) (e : RangeEntry) : (setRange i e s).uls = s.uls := rfl
@[simp] theorem setRange_xce (i : Nat) (e : RangeEntry) : (setRange i e s).xce = s.xce := rfl
@[simp] theorem setRange_msp (i : Nat) (e : RangeEntry) : (setRange i e s).msp = s.msp := rfl
@[simp] theorem setRange_power (i : Nat) (e : RangeEntry) : (setRange i e s).power = s.power := rfl
@[simp] theorem setRange_out (i : Nat) (e : RangeEntry) : (setRange i e s).out = s.out := rfl
@[simp] theorem setRange_free (i : Nat) (e : RangeEntry) : (setRange i e s).free = s.free := rfl
@[simp] theorem setRange_pending (i : Nat) (e : RangeEntry) : (setRange i e s).pending = s.pending := rfl

/-! ### What an update leaves of its own block -/

@[simp] theorem report_replies (b : ReportBody) : (s.report b).msp.replies = s.msp.replies := rfl
@[simp] theorem report_clock (b : ReportBody) : (s.report b).msp.clock = s.msp.clock := rfl
@[simp] theorem report_resetTaken (b : ReportBody) : (s.report b).msp.resetTaken = s.msp.resetTaken := rfl
@[simp] theorem report_checkWritten (b : ReportBody) : (s.report b).msp.checkWritten = s.msp.checkWritten := rfl
@[simp] theorem report_frameErrors (b : ReportBody) : (s.report b).msp.frameErrors = s.msp.frameErrors := rfl
@[simp] theorem report_faultRecord (b : ReportBody) (d : FaultDomain) : (s.report b).msp.faultRecord d = s.msp.faultRecord d := by
  cases d <;> rfl
@[simp] theorem logFault_replies (d : FaultDomain) (code : Nat) (x : FaultDetail) : (s.logFault d code x).msp.replies = s.msp.replies := by
  cases d <;> rfl
@[simp] theorem logFault_clock (d : FaultDomain) (code : Nat) (x : FaultDetail) : (s.logFault d code x).msp.clock = s.msp.clock := by
  cases d <;> rfl
@[simp] theorem logFault_resetTaken (d : FaultDomain) (code : Nat) (x : FaultDetail) :
    (s.logFault d code x).msp.resetTaken = s.msp.resetTaken := by
  cases d <;> rfl
@[simp] theorem logFault_checkWritten (d : FaultDomain) (code : Nat) (x : FaultDetail) :
    (s.logFault d code x).msp.checkWritten = s.msp.checkWritten := by
  cases d <;> rfl
@[simp] theorem addReply_replies (tag : Nat) (p : ReplyPlace) (r : Reply) :
    (s.addReply tag p r).msp.replies = s.msp.replies ++ [⟨tag, r, p⟩] := rfl
@[simp] theorem addReply_reports (tag : Nat) (p : ReplyPlace) (r : Reply) : (s.addReply tag p r).msp.reports = s.msp.reports := rfl
@[simp] theorem addReply_clock (tag : Nat) (p : ReplyPlace) (r : Reply) : (s.addReply tag p r).msp.clock = s.msp.clock := rfl
@[simp] theorem addReply_resetTaken (tag : Nat) (p : ReplyPlace) (r : Reply) : (s.addReply tag p r).msp.resetTaken = s.msp.resetTaken := rfl
@[simp] theorem addReply_checkWritten (tag : Nat) (p : ReplyPlace) (r : Reply) :
    (s.addReply tag p r).msp.checkWritten = s.msp.checkWritten := rfl
@[simp] theorem addReply_faultRecord (tag : Nat) (p : ReplyPlace) (r : Reply) (d : FaultDomain) :
    (s.addReply tag p r).msp.faultRecord d = s.msp.faultRecord d := by
  cases d <;> rfl
@[simp] theorem onLrc_lrc (f : LabelRadio → LabelRadio) : (s.onLrc f).lrc = f s.lrc := rfl
@[simp] theorem onSession_session (f : ExchangeSession → ExchangeSession) : (s.onSession f).xce.session = f s.xce.session := rfl
@[simp] theorem onSession_cutover (f : ExchangeSession → ExchangeSession) : (s.onSession f).xce.cutover = s.xce.cutover := rfl
@[simp] theorem onSession_walk (f : ExchangeSession → ExchangeSession) : (s.onSession f).xce.walk = s.xce.walk := rfl
@[simp] theorem onSession_staging (f : ExchangeSession → ExchangeSession) : (s.onSession f).xce.staging = s.xce.staging := rfl
@[simp] theorem onCutover_cutover (f : Cutover → Cutover) : (s.onCutover f).xce.cutover = f s.xce.cutover := rfl
@[simp] theorem onCutover_session (f : Cutover → Cutover) : (s.onCutover f).xce.session = s.xce.session := rfl
@[simp] theorem onCutover_walk (f : Cutover → Cutover) : (s.onCutover f).xce.walk = s.xce.walk := rfl
@[simp] theorem setWalk_walk (w : Option Walk) : (s.setWalk w).xce.walk = w := rfl
@[simp] theorem setWalk_session (w : Option Walk) : (s.setWalk w).xce.session = s.xce.session := rfl
@[simp] theorem setWalk_cutover (w : Option Walk) : (s.setWalk w).xce.cutover = s.xce.cutover := rfl
@[simp] theorem onCounts_counts (f : ForwardCounts → ForwardCounts) : (s.onCounts f).zfw.counts = f s.zfw.counts := rfl
@[simp] theorem putItem_epoch (r : ItemRecord) : (s.putItem r).itb.epoch = s.itb.epoch := rfl
@[simp] theorem putItem_lagLimit (r : ItemRecord) : (s.putItem r).itb.lagLimit = s.itb.lagLimit := rfl
@[simp] theorem putItem_rates (r : ItemRecord) : (s.putItem r).itb.rates = s.itb.rates := rfl
@[simp] theorem putItem_pendingBatch (r : ItemRecord) : (s.putItem r).itb.pendingBatch = s.itb.pendingBatch := rfl
@[simp] theorem dropItem_epoch (c : Nat) : (s.dropItem c).itb.epoch = s.itb.epoch := rfl
@[simp] theorem sendLane_outbox (st : HwAddr) (ms : List LaneMessage) : (sendLane st ms s).tsu.outbox = s.tsu.outbox ++ [⟨st, ms⟩] := rfl
@[simp] theorem sendLane_sessions (st : HwAddr) (ms : List LaneMessage) : (sendLane st ms s).tsu.sessions = s.tsu.sessions := rfl
@[simp] theorem sendLane_baskets (st : HwAddr) (ms : List LaneMessage) : (sendLane st ms s).tsu.baskets = s.tsu.baskets := rfl

/-! ### The clock, which no update above moves -/

@[simp] theorem report_now (b : ReportBody) : (s.report b).now = s.now := rfl
@[simp] theorem logFault_now (d : FaultDomain) (code : Nat) (x : FaultDetail) : (s.logFault d code x).now = s.now := by cases d <;> rfl
@[simp] theorem addReply_now (tag : Nat) (p : ReplyPlace) (r : Reply) : (s.addReply tag p r).now = s.now := rfl
@[simp] theorem putItem_now (r : ItemRecord) : (s.putItem r).now = s.now := rfl
@[simp] theorem onLrc_now (f : LabelRadio → LabelRadio) : (s.onLrc f).now = s.now := rfl
@[simp] theorem setSession_now (lane : Nat) (x : Session) : (s.setSession lane x).now = s.now := rfl
@[simp] theorem setBasket_now (lane : Nat) (b : Basket) : (s.setBasket lane b).now = s.now := rfl

/-! ### Keyed reads after keyed writes -/

@[simp] theorem putItem_item (r : ItemRecord) : (s.putItem r).item r.code = some r := findKey_putKey_same ItemRecord.code r s.itb.items
theorem putItem_item_ne (r : ItemRecord) {c : Nat} (h : c ≠ r.code) : (s.putItem r).item c = s.item c :=
  findKey_putKey_ne ItemRecord.code r s.itb.items h
@[simp] theorem dropItem_item (c : Nat) : (s.dropItem c).item c = none := findKey_dropKey_same ItemRecord.code c s.itb.items
theorem dropItem_item_ne {c d : Nat} (h : d ≠ c) : (s.dropItem c).item d = s.item d := findKey_dropKey_ne ItemRecord.code s.itb.items h
@[simp] theorem report_item (b : ReportBody) (c : Nat) : (s.report b).item c = s.item c := rfl
@[simp] theorem logFault_item (d : FaultDomain) (code : Nat) (x : FaultDetail) (c : Nat) : (s.logFault d code x).item c = s.item c := rfl
@[simp] theorem addReply_item (tag : Nat) (p : ReplyPlace) (r : Reply) (c : Nat) : (s.addReply tag p r).item c = s.item c := rfl
@[simp] theorem onLrc_item (f : LabelRadio → LabelRadio) (c : Nat) : (s.onLrc f).item c = s.item c := rfl
theorem item_code {s : State} {c : Nat} {r : ItemRecord} (h : s.item c = some r) : r.code = c := findKey_key ItemRecord.code h
@[simp] theorem putGuest_guest (g : GuestSession) : (s.putGuest g).guest g.hw = some g :=
  findKey_putKey_same GuestSession.key g s.gat.sessions
@[simp] theorem setSession_session (lane : Nat) (x : Session) (h : lane - 1 < 64) : (s.setSession lane x).session lane = x :=
  tget_tset_same _ _ _ _ h
theorem setSession_session_ne {lane other : Nat} (x : Session) (h : lane - 1 ≠ other - 1) :
    (s.setSession lane x).session other = s.session other :=
  tget_tset_ne _ _ _ _ _ h
@[simp] theorem setSession_basket (lane other : Nat) (x : Session) : (s.setSession lane x).basket other = s.basket other := rfl
@[simp] theorem setSession_roster (lane other : Nat) (x : Session) : (s.setSession lane x).roster other = s.roster other := rfl
@[simp] theorem setBasket_basket (lane : Nat) (b : Basket) (h : lane - 1 < 64) : (s.setBasket lane b).basket lane = b :=
  tget_tset_same _ _ _ _ h
theorem setBasket_basket_ne {lane other : Nat} (b : Basket) (h : lane - 1 ≠ other - 1) :
    (s.setBasket lane b).basket other = s.basket other :=
  tget_tset_ne _ _ _ _ _ h
@[simp] theorem setBasket_session (lane other : Nat) (b : Basket) : (s.setBasket lane b).session other = s.session other := rfl
@[simp] theorem setBasket_roster (lane other : Nat) (b : Basket) : (s.setBasket lane b).roster other = s.roster other := rfl
@[simp] theorem sendLane_session (st : HwAddr) (ms : List LaneMessage) (lane : Nat) : (sendLane st ms s).session lane = s.session lane := rfl
@[simp] theorem sendLane_basket (st : HwAddr) (ms : List LaneMessage) (lane : Nat) : (sendLane st ms s).basket lane = s.basket lane := rfl

end Sys2Proof.Machine
end

