-- ==== Sys2Proof/Laws/Ops.lean ====
section
/-! SUPPORT. What each shared operation can do, said once: the Message Port's, the journal's, the lane protocol's, the
overlays', the retained check's and the guest table's. -/

namespace Sys2Proof.Machine

variable {s : State}

/-! ### The Message Port -/

theorem whileRunning_on (f : State → State) (h : s.power = .running) : whileRunning f s = f s := by simp [whileRunning, h]

theorem whileRunning_off (f : State → State) (h : s.power ≠ .running) : whileRunning f s = s := by simp [whileRunning, h]

theorem canTake_iff : s.canTake = true ↔ s.power = .running ∧ s.msp.unreplied < 8 := by
  simp [State.canTake, State.takesFrames]

theorem takesFrames_of_canTake (h : s.canTake = true) : s.takesFrames = true := by
  simp only [State.canTake, Bool.and_eq_true] at h; exact h.1

/-- A request that is taken is answered with its block's reply (R180, R181). -/
theorem hostRequest_taken (tag : Nat) (f : State → State × Reply) (h : s.canTake = true) :
    hostRequest tag f s = ((f s).1).addReply tag .request (f s).2 := by
  have h' := h
  simp only [State.canTake, Bool.and_eq_true, decide_eq_true_eq] at h'
  simp [hostRequest, h'.1, h'.2]

/-- With 8 requests unreplied a request is refused at once (R180). -/
theorem hostRequest_busy (tag : Nat) (f : State → State × Reply) (h : s.takesFrames = true) (h8 : ¬ s.msp.unreplied < 8) :
    hostRequest tag f s = s.refuseAtOnce tag .busy := by
  simp [hostRequest, h, h8]

/-- A port that takes no frames discards a request (R189, R190). -/
theorem hostRequest_deaf (tag : Nat) (f : State → State × Reply) (h : s.takesFrames = false) : hostRequest tag f s = s := by
  simp [hostRequest, h]

/-- What a request can do: nothing, be refused at once, or be taken and answered. -/
theorem hostRequest_cases (tag : Nat) (f : State → State × Reply) (s : State) :
    (s.takesFrames = false ∧ hostRequest tag f s = s) ∨
    (s.takesFrames = true ∧ ¬ s.msp.unreplied < 8 ∧ hostRequest tag f s = s.refuseAtOnce tag .busy) ∨
    (s.canTake = true ∧ hostRequest tag f s = ((f s).1).addReply tag .request (f s).2) := by
  by_cases h : s.takesFrames
  · by_cases h8 : s.msp.unreplied < 8
    · refine .inr (.inr ?_)
      have hc : s.canTake = true := by simp [State.canTake, h, h8]
      exact ⟨hc, hostRequest_taken tag f hc⟩
    · exact .inr (.inl ⟨h, h8, hostRequest_busy tag f h h8⟩)
  · have h' : s.takesFrames = false := by simpa using h
    exact .inl ⟨h', hostRequest_deaf tag f h'⟩

/-- What a command that a stopped part ignores can do. -/
theorem whileRunning_cases (f : State → State) (s : State) :
    (s.power = .running ∧ whileRunning f s = f s) ∨ (s.power ≠ .running ∧ whileRunning f s = s) := by
  by_cases h : s.power = .running
  · exact .inl ⟨h, whileRunning_on f h⟩
  · exact .inr ⟨h, whileRunning_off f h⟩

/-- A report joins a queue that has room (R183). -/
theorem queueReport_join (now : Nat) (b : ReportBody) (q : List Report) (h : q.length < 64) : queueReport now b q = q ++ [⟨now, b⟩] := by
  simp [queueReport, h]

/-- The Report Queue never grows past 64 (R183). -/
theorem queueReport_length (now : Nat) (b : ReportBody) (q : List Report) (h : q.length ≤ 64) : (queueReport now b q).length ≤ 64 := by
  unfold queueReport
  split
  · simp; omega
  · split
    · simp; omega
    · simp; omega

theorem updateFrameError_length (c : FrameErrorCause) (n : Nat) (q : List Report) : (updateFrameError c n q).length = q.length := by
  simp [updateFrameError]

@[simp] theorem setFaultRecord_same (m : MessagePort) (d : FaultDomain) (r : FaultRecord) : (m.setFaultRecord d r).faultRecord d = r := by
  cases d <;> rfl

@[simp] theorem setFaultRecord_ne (m : MessagePort) {d e : FaultDomain} (r : FaultRecord) (h : d ≠ e) :
    (m.setFaultRecord d r).faultRecord e = m.faultRecord e := by
  cases d <;> cases e <;> first | rfl | exact absurd rfl h

/-- A fault moves its own record and no other (R184). -/
theorem logFault_own (d : FaultDomain) (code : Nat) (x : FaultDetail) (s : State) :
    (s.logFault d code x).msp.faultRecord d = (s.msp.faultRecord d).log code s.now x := by
  cases d <;> rfl

theorem logFault_other {d e : FaultDomain} (code : Nat) (x : FaultDetail) (s : State) (h : d ≠ e) :
    (s.logFault d code x).msp.faultRecord e = s.msp.faultRecord e := by
  cases d <;> cases e <;> first | rfl | exact absurd rfl h

/-! ### The journal -/

theorem journalAppend_accepted (mem : MemFaults) (c : JournalContent) (h : s.jnl.fits c = true) :
    journalAppend mem c s = (acceptAppend mem c s, some s.jnl.append.seq) := by simp [journalAppend, h]

theorem journalAppend_refused (mem : MemFaults) (c : JournalContent) (h : s.jnl.fits c = false) :
    journalAppend mem c s = (refuseAppend c s, none) := by simp [journalAppend, h]

/-! ### The lane protocol -/

/-- A lane frame that is taken (R42). -/
theorem laneFrame_taken (lane : Nat) (f : State → State) (hp : s.power = .running) (hs : s.tsu.serving = true) (hl : laneOk lane = true) :
    laneFrame lane f s = f s := by simp [laneFrame, whileRunning, hp, hs, hl]

/-- Before the tills are served a lane frame is discarded (R42). -/
theorem laneFrame_early (lane : Nat) (f : State → State) (hs : s.tsu.serving = false) : laneFrame lane f s = s := by
  simp [laneFrame, whileRunning, hs]

/-- A repeat sends the kept reply and does nothing else (R43). -/
theorem numbered_repeat (src : HwAddr) (lane msg : Nat) (ok : Bool) (f : State → State × LaneMessage) (r : LaneMessage)
    (hp : (s.session lane).state.isPresent = true) (hs : (s.session lane).station = some src)
    (hr : (s.session lane).repeated msg = some r) : numbered src lane msg ok f s = sendLane src [r] s := by
  simp [numbered, hp, hs, hr]

/-- A new message in range is taken, answered, and kept with its reply (R43). -/
theorem numbered_new (src : HwAddr) (lane msg : Nat) (f : State → State × LaneMessage)
    (hp : (s.session lane).state.isPresent = true) (hs : (s.session lane).station = some src)
    (hr : (s.session lane).repeated msg = none) (hm : messageOk msg = true) :
    numbered src lane msg true f s = takeNew src lane msg f s := by
  simp [numbered, hp, hs, hr, hm]

/-! ### Overlays (R113) -/

/-- An overlay joins the covering ones, and none of them is lost. -/
theorem placeOverlay_perm (o : Overlay) (l : List Overlay) : (placeOverlay o l).Perm (o :: l) := by
  induction l with
  | nil => exact .refl _
  | cons x xs ih =>
    unfold placeOverlay
    split
    · exact .refl _
    · exact (ih.cons x).trans (.swap o x xs)

/-- It stands where its stamp puts it. -/
theorem placeOverlay_sorted (o : Overlay) (l : List Overlay) (h : l.Pairwise fun a b => a.stamp ≤ b.stamp) :
    (placeOverlay o l).Pairwise fun a b => a.stamp ≤ b.stamp := by
  induction l with
  | nil => simp [placeOverlay]
  | cons x xs ih =>
    obtain ⟨hx, hxs⟩ := List.pairwise_cons.mp h
    unfold placeOverlay
    split
    · rename_i hlt
      refine List.pairwise_cons.mpr ⟨fun b hb => ?_, h⟩
      rcases List.mem_cons.mp hb with rfl | hb
      · exact Nat.le_of_lt hlt
      · exact Nat.le_trans (Nat.le_of_lt hlt) (hx b hb)
    · rename_i hge
      refine List.pairwise_cons.mpr ⟨fun b hb => ?_, ih hxs⟩
      rcases List.mem_cons.mp ((placeOverlay_perm o xs).mem_iff.mp hb) with rfl | hb
      · omega
      · exact hx b hb

/-! ### The retained check (R188) -/

/-- What an evaluation can give: ABSENT without a word, else what the memory gives back decides. -/
theorem evaluateCheck_cases (m : RetainedMemory) (s : State) :
    (s.msp.checkWritten = false ∧ evaluateCheck m s = .absent) ∨
    (s.msp.checkWritten = true ∧ (m = .lost ∧ evaluateCheck m s = .absent ∨ m = .kept ∧ evaluateCheck m s = .passed ∨
      ∃ p, m = .damaged p ∧ evaluateCheck m s = .failed p)) := by
  unfold evaluateCheck
  cases s.msp.checkWritten <;> cases m <;> simp

/-! ### Eviction (R140) -/

/-- The session that gives way is one of the table's, cooled down, IDLE or PENDING. -/
theorem candidate_cases {g : GuestTable} {x : GuestSession} (h : g.candidate = some x) :
    x ∈ g.sessions ∧ (x.cooledDown = true ∨ x.state = .idle ∨ x.state = .pending) := by
  unfold GuestTable.candidate at h
  split at h
  · rename_i y hy
    have := bestBy_mem hy
    simp_all
  · split at h
    · rename_i y hy
      have := bestBy_mem hy
      simp_all
    · have := bestBy_mem h
      simp_all

/-- Room is there at once, or made by evicting the candidate. -/
theorem makeRoom_cases {t : State} (h : makeRoom s = some t) :
    (s.gat.sessions.length < 512 ∧ t = s) ∨
    ∃ x, s.gat.candidate = some x ∧
      t = { s.dropGuest x.hw with gat := { (s.dropGuest x.hw).gat with evictions := bump max32 s.gat.evictions } } := by
  unfold makeRoom at h
  split at h
  · exact .inl ⟨‹_›, (Option.some.inj h).symm⟩
  · split at h
    · cases h
    · exact .inr ⟨_, ‹_›, (Option.some.inj h).symm⟩

end Sys2Proof.Machine
end

