-- ==== Sys2Proof/Laws/Journal.lean ====
section
/-! SUPPORT. What each operation of the Sales Journal can do, said once (04). -/

namespace Sys2Proof.Machine

/-- A page read for its check changes held records and, at a first failure, the Message Port's faults and reports (R75). -/
theorem checkPage_frame (mem : MemFaults) (r : JournalRecord) (i : Nat) (s : State) :
    ∃ rs m, checkPage mem r i s = { s with jnl := { s.jnl with records := rs }, msp := m } ∧
      m.replies = s.msp.replies ∧ m.clock = s.msp.clock ∧ m.resetTaken = s.msp.resetTaken := by
  unfold checkPage
  split
  · exact ⟨_, (s.logFault .memory 503 (.journalPage r.seq i)).msp, rfl, rfl, rfl, rfl⟩
  · exact ⟨_, s.msp, rfl, rfl, rfl, rfl⟩

/-- Pages read in ring order change what `checkPage` changes, and nothing else (R73, R75). -/
theorem readRingPages_frame (mem : MemFaults) (n pos : Nat) (s : State) :
    ∃ rs m, (readRingPages mem n pos s).1 = { s with jnl := { s.jnl with records := rs }, msp := m } ∧
      m.replies = s.msp.replies ∧ m.clock = s.msp.clock ∧ m.resetTaken = s.msp.resetTaken := by
  induction n generalizing pos s with
  | zero => exact ⟨s.jnl.records, s.msp, rfl, rfl, rfl, rfl⟩
  | succ n ih =>
    unfold readRingPages readRingPage
    cases s.jnl.owner pos with
    | none => exact ih (forward pos 1) s
    | some r =>
      obtain ⟨rs, m, h1, h2, h3, h4⟩ := checkPage_frame mem r (ringDistance r.pos pos) s
      obtain ⟨rs', m', g1, g2, g3, g4⟩ := ih (forward pos 1) (checkPage mem r (ringDistance r.pos pos) s)
      rw [h1] at g1 g2 g3 g4
      exact ⟨rs', m', by dsimp only; rw [h1]; exact g1, g2.trans h2, g3.trans h3, g4.trans h4⟩

/-- A block read moves no pointer (R73). -/
theorem blockRead_frame (mem : MemFaults) (start n : Nat) (s : State) :
    ∃ rs m, (blockRead mem start n s).1 = { s with jnl := { s.jnl with records := rs }, msp := m } ∧
      m.replies = s.msp.replies ∧ m.clock = s.msp.clock ∧ m.resetTaken = s.msp.resetTaken := by
  unfold blockRead
  split
  · exact ⟨s.jnl.records, s.msp, rfl, rfl, rfl, rfl⟩
  · dsimp only
    split
    · exact readRingPages_frame ..
    · exact ⟨s.jnl.records, s.msp, rfl, rfl, rfl, rfl⟩

/-- One reclaim takes the oldest record away (R70). -/
theorem reclaimOne_frame (mem : MemFaults) (s : State) :
    ∃ rs o m, reclaimOne mem s = { s with jnl := { s.jnl with records := rs, oldest := o }, msp := m } ∧
      m.replies = s.msp.replies ∧ m.clock = s.msp.clock ∧ m.resetTaken = s.msp.resetTaken := by
  unfold reclaimOne
  split
  · exact ⟨s.jnl.records, s.jnl.oldest, s.msp, by cases s; rfl, rfl, rfl, rfl⟩
  · rename_i r _ h
    obtain ⟨rs, m, h1, h2, h3, h4⟩ := checkPage_frame mem r 0 s
    exact ⟨rs.tail, r.next, m, by rw [h1], h2, h3, h4⟩

/-- Reclaims take old records away and move only the oldest pointer (R70). -/
theorem reclaim_frame (mem : MemFaults) (n fuel : Nat) (s : State) :
    ∃ rs o m, reclaim mem n fuel s = { s with jnl := { s.jnl with records := rs, oldest := o }, msp := m } ∧
      m.replies = s.msp.replies ∧ m.clock = s.msp.clock ∧ m.resetTaken = s.msp.resetTaken := by
  induction fuel generalizing s with
  | zero => exact ⟨s.jnl.records, s.jnl.oldest, s.msp, by cases s; rfl, rfl, rfl, rfl⟩
  | succ k ih =>
    unfold reclaim
    split
    · exact ⟨s.jnl.records, s.jnl.oldest, s.msp, by cases s; rfl, rfl, rfl, rfl⟩
    · obtain ⟨rs, o, m, h1, h2, h3, h4⟩ := reclaimOne_frame mem s
      obtain ⟨rs', o', m', g1, g2, g3, g4⟩ := ih (reclaimOne mem s)
      refine ⟨rs', o', m', ?_, ?_, ?_, ?_⟩
      · rw [g1, h1]
      · rw [g2, h1]; exact h2
      · rw [g3, h1]; exact h3
      · rw [g4, h1]; exact h4

/-- An accepted append puts one record at the append point; mark and limit stay (R70). -/
theorem acceptAppend_frame (mem : MemFaults) (c : JournalContent) (s : State) :
    ∃ j m, acceptAppend mem c s = { s with jnl := j, msp := m } ∧
      m.replies = s.msp.replies ∧ m.clock = s.msp.clock ∧ m.resetTaken = s.msp.resetTaken ∧
      j.records.getLast? = 
        some ⟨s.jnl.append.seq, s.jnl.append.pos, c.pageCount, s.now, s.msp.clock.isSet, false, [], c⟩ ∧
      j.mark = s.jnl.mark ∧ j.limit = s.jnl.limit ∧
      j.append = ⟨forward s.jnl.append.pos c.pageCount, next32 s.jnl.append.seq⟩ := by
  obtain ⟨rs, o, m, h1, h2, h3, h4⟩ := reclaim_frame mem c.pageCount s.jnl.records.length s
  unfold acceptAppend
  rw [h1]
  unfold judgeHighWater
  split
  · refine ⟨_, _, rfl, ?_, ?_, ?_, ?_, rfl, rfl, ?_⟩
    · exact h2
    · exact h3
    · exact h4
    · simp [writeRecord, State.now, h3]
    · simp [writeRecord, JournalRecord.next]
  · refine ⟨_, _, rfl, ?_, ?_, ?_, ?_, rfl, rfl, ?_⟩
    · exact h2
    · exact h3
    · exact h4
    · simp [State.now, h3]
    · simp [JournalRecord.next]

end Sys2Proof.Machine
end

