-- ==== Sys2Proof/Laws/Items.lean ====
section
/-! SUPPORT. What each operation of the Item Table can do, said once (01). -/

namespace Sys2Proof.Machine

/-- One checked read: nothing, or the record DAMAGED and fault 502 (R22). -/
theorem checkItem_cases (mem : MemFaults) (code : Nat) (s : State) :
    checkItem mem code s = s ∨ ∃ r, s.item code = some r ∧ r.damaged = false ∧ mem.items.contains code = true ∧
      checkItem mem code s = (s.putItem { r with damaged := true }).logFault .memory 502 (.item code) := by
  unfold checkItem
  cases h : s.item code with
  | none => simp
  | some r =>
    by_cases hd : (mem.items.contains code && !r.damaged) = true
    · right
      simp only [Bool.and_eq_true, Bool.not_eq_true'] at hd
      exact ⟨r, rfl, hd.2, hd.1, if_pos (by rw [hd.1, hd.2]; rfl)⟩
    · left; exact if_neg hd

/-- A checked read of a code whose check passes changes nothing (R22). -/
theorem checkItem_clean (mem : MemFaults) {code : Nat} (s : State) (h : code ∉ mem.items) : checkItem mem code s = s := by
  unfold checkItem
  cases s.item code <;> simp [h]

/-- Only the item records, the faults and the reports can change at a checked read. -/
theorem checkItem_frame (mem : MemFaults) (code : Nat) (s : State) :
    ∃ its m, checkItem mem code s = { s with itb := { s.itb with items := its }, msp := m } ∧
      m.replies = s.msp.replies ∧ m.clock = s.msp.clock ∧ m.resetTaken = s.msp.resetTaken := by
  rcases checkItem_cases mem code s with h | ⟨r, -, -, -, h⟩
  · exact ⟨s.itb.items, s.msp, by rw [h], rfl, rfl, rfl⟩
  · exact ⟨_, _, h, rfl, rfl, rfl⟩

/-- A checked read leaves every other record. -/
theorem checkItem_item_ne (mem : MemFaults) {code c : Nat} (s : State) (hc : c ≠ code) : (checkItem mem code s).item c = s.item c := by
  rcases checkItem_cases mem code s with h | ⟨r, hr, -, -, h⟩
  · rw [h]
  · rw [h, logFault_item]
    exact putItem_item_ne _ _ (by simpa [item_code hr] using hc)

/-- A change of current: the record at its code is as the rule makes it, every other record stays, and only the Item Table's records,
the Label Radio Controller, the faults and the reports can change (R3, R9). -/
theorem changeCurrent_spec (mem : MemFaults) (p : PriceRecord) (also : ItemRecord → ItemRecord) (r : ItemRecord) (s : State)
    (ha : ∀ x, (also x).code = x.code) :
    ∃ its l m, changeCurrent mem p also r s = { s with itb := { s.itb with items := its }, lrc := l, msp := m } ∧
      m.replies = s.msp.replies ∧ m.clock = s.msp.clock ∧ m.resetTaken = s.msp.resetTaken ∧
      (changeCurrent mem p also r s).item r.code = some (also (r.changed mem s.now p)) ∧
      ∀ c, c ≠ r.code → (changeCurrent mem p also r s).item c = s.item c := by
  have hcode : (also (r.changed mem s.now p)).code = r.code := by rw [ha]; rfl
  have key : ∀ u : State, (∃ its m, u = { s with itb := { s.itb with items := its }, msp := m } ∧ m.replies = s.msp.replies ∧
      m.clock = s.msp.clock ∧ m.resetTaken = s.msp.resetTaken) → (∀ c, c ≠ r.code → u.item c = s.item c) →
      ∃ its l m, tellVersion r (u.putItem (also (r.changed mem u.now p))) =
          { s with itb := { s.itb with items := its }, lrc := l, msp := m } ∧
        m.replies = s.msp.replies ∧ m.clock = s.msp.clock ∧ m.resetTaken = s.msp.resetTaken ∧
        (tellVersion r (u.putItem (also (r.changed mem u.now p)))).item r.code = some (also (r.changed mem s.now p)) ∧
        ∀ c, c ≠ r.code → (tellVersion r (u.putItem (also (r.changed mem u.now p)))).item c = s.item c := by
    rintro u ⟨its, m, rfl, h1, h2, h3⟩ hne
    have hnow : State.now { s with itb := { s.itb with items := its }, msp := m } = s.now := by simp [State.now, h2]
    refine ⟨_, _, m, rfl, h1, h2, h3, ?_, ?_⟩
    · rw [hnow]
      have := putItem_item { s with itb := { s.itb with items := its }, msp := m } (also (r.changed mem s.now p))
      rw [hcode] at this
      exact this
    · intro c hc
      rw [tellVersion, onLrc_item, putItem_item_ne _ _ (by rw [hnow, hcode]; exact hc)]
      exact hne c hc
  unfold changeCurrent
  split
  · exact key _ (checkItem_frame mem r.code s) fun c hc => checkItem_item_ne mem s hc
  · exact key _ ⟨s.itb.items, s.msp, rfl, rfl, rfl, rfl⟩ fun c _ => rfl

end Sys2Proof.Machine
end

