-- ==== Sys2Proof/WellFormed.lean ====
section
/-! DEFINITION. Which commands can come to the part: every field within the octets that carry it (R177, R178, R41, R159), a tag of 1..255
(R177), a kind that no request has for UNKNOWN_KIND (R180), and a cause that the receive side itself finds for FRAME_ERROR (R179). -/

namespace Sys2Proof

open Sys2Proof.Machine

/-- Does a number fit `w` octets (R178)? -/
def fitsOctets (w n : Nat) : Bool := decide (n < 256 ^ w)

/-- A tag of a request (R177). -/
def tagOk (t : Nat) : Bool := decide (1 ≤ t) && decide (t ≤ 255)

/-- A text that one octet counts (R178). -/
def textFits (t : Text) : Bool := fitsOctets 1 t.length

/-- An optional field. -/
def optFits {α : Type} (f : α → Bool) (x : Option α) : Bool := x.all f

/-- A label address in its 3 octets (R178). -/
def LabelAddr.fits (a : LabelAddr) : Bool := fitsOctets 2 a.rail && fitsOctets 1 a.slot

/-- The figures of a promotion in their octets. -/
def RawPromotion.fits (w : PriceWidths) (p : RawPromotion) : Bool :=
  fitsOctets 1 p.form && match p.form with
    | 1 => fitsOctets w.rate p.a
    | 2 => fitsOctets 4 p.a
    | 3 => fitsOctets w.many p.a && fitsOctets 4 p.b
    | _ => true

/-- A price record in its octets. -/
def RawPrice.fits (w : PriceWidths) (p : RawPrice) : Bool :=
  fitsOctets 4 p.unit && fitsOctets 1 p.mode && fitsOctets 1 p.basis && optFits (fitsOctets w.pack) p.pack && p.promo.fits w

/-- ITEM-PUT. -/
def ItemPutArgs.fits (a : ItemPutArgs) : Bool := fitsOctets 8 a.code && textFits a.desc && fitsOctets 2 a.band && a.price.fits requestWidths

/-- ITEM-PRICE. -/
def ItemPriceArgs.fits (a : ItemPriceArgs) : Bool := fitsOctets 8 a.code && a.price.fits requestWidths

/-- TAX-SET. -/
def TaxArgs.fits (a : TaxArgs) : Bool := fitsOctets 2 a.band && fitsOctets 4 a.rate

/-- ROSTER-SET. -/
def RosterArgs.fits (a : RosterArgs) : Bool :=
  fitsOctets 2 a.lane && textFits a.tillId && fitsOctets 1 a.policy && fitsOctets 2 a.band

/-- TILL-PARAMS. -/
def TillParamsArgs.fits (a : TillParamsArgs) : Bool := fitsOctets 2 a.poll && fitsOctets 4 a.window

/-- JOURNAL-READ. -/
def JournalReadArgs.fits (a : JournalReadArgs) : Bool := fitsOctets 4 a.seq && optFits (fitsOctets 2) a.page

/-- LABEL-ADD. -/
def LabelAddArgs.fits (a : LabelAddArgs) : Bool := a.addr.fits && optFits (fitsOctets 2) a.template

/-- LABEL-BIND. -/
def LabelBindArgs.fits (a : LabelBindArgs) : Bool := a.addr.fits && fitsOctets 8 a.code && optFits (fitsOctets 2) a.template

/-- RAIL-SET. -/
def RailSetArgs.fits (a : RailSetArgs) : Bool := fitsOctets 4 a.first && fitsOctets 4 a.last && fitsOctets 2 a.code

/-- LABEL-PARAMS. -/
def LabelParamsArgs.fits (a : LabelParamsArgs) : Bool := fitsOctets 2 a.retry && fitsOctets 8 a.presence

/-- TEMPLATE-ELEMENT: a text only with TEXT and a called slot only with CALL (R178). -/
def RawElement.fits (e : RawElement) : Bool :=
  fitsOctets 1 e.kind && fitsOctets 2 e.row && fitsOctets 2 e.column && fitsOctets 2 e.size && optFits textFits e.text
    && optFits (fitsOctets 2) e.called && e.text.isSome == (e.kind == 4) && e.called.isSome == (e.kind == 6)

/-- OVERLAY-SET. -/
def OverlayArgs.fits (a : OverlayArgs) : Bool := fitsOctets 2 a.overlay && fitsOctets 2 a.slot && fitsOctets 4 a.first && fitsOctets 4 a.last

/-- RANGE-SET. -/
def RangeArgs.fits (a : RangeArgs) : Bool := fitsOctets 2 a.index && fitsOctets 1 a.zone

/-- POLICY-SET. -/
def PolicyArgs.fits (a : PolicyArgs) : Bool := fitsOctets 1 a.src && fitsOctets 1 a.dst && fitsOctets 1 a.value

/-- KIND-SET. -/
def KindArgs.fits (a : KindArgs) : Bool :=
  fitsOctets 2 a.index && optFits (fun k => fitsOctets 4 k.low && fitsOctets 4 k.high && fitsOctets 1 k.kind) a.entry

/-- HINT-SET. -/
def HintArgs.fits (a : HintArgs) : Bool :=
  fitsOctets 1 a.src && fitsOctets 1 a.dst && fitsOctets 1 a.payment && fitsOctets 1 a.interactive && fitsOctets 1 a.bulk && fitsOctets 1 a.control

/-- GUEST-SERVICE. -/
def GuestServiceArgs.fits (a : GuestServiceArgs) : Bool := fitsOctets 1 a.service && optFits (fitsOctets 4) a.idle

/-- GUEST-ADMIT. -/
def GuestAdmitArgs.fits (a : GuestAdmitArgs) : Bool := fitsOctets 8 a.duration && fitsOctets 8 a.quota

/-- PROFILE-SET. -/
def ProfileArgs.fits (a : ProfileArgs) : Bool :=
  fitsOctets 1 a.profile && fitsOctets 4 a.ctrl && fitsOctets 4 a.store && fitsOctets 4 a.exch && fitsOctets 4 a.guest

/-- CUTOVER-AT. -/
def CutoverAtArgs.fits (a : CutoverAtArgs) : Bool := fitsOctets 4 a.time && optFits (fitsOctets 4) a.drain

/-- FAULT-CLEAR. -/
def FaultClearArgs.fits (a : FaultClearArgs) : Bool := fitsOctets 1 a.domain && fitsOctets 2 a.seq

/-- A change entry: ADD and CHANGE carry their detail, no other kind does (R159). -/
def RawChange.fits (c : RawChange) : Bool :=
  fitsOctets 1 c.kind && fitsOctets 8 c.code && c.detail.isSome == decide (c.kind ≤ 1)
    && optFits (fun d => textFits d.desc && fitsOctets 1 d.band && d.price.fits batchWidths) c.detail

/-- An optional item code as a request carries it. -/
def codeFits (c : Option Nat) : Bool := optFits (fitsOctets 8) c

/-- A number that a request carries in two octets: a lane, a slot, an index. -/
def shortFits (n : Option Nat) : Bool := optFits (fitsOctets 2) n

/-- Can the command come to the part? -/
def Instr.wf : Instr → Bool
  | .itemPut t a _ => tagOk t && optFits ItemPutArgs.fits a
  | .itemPrice t a _ => tagOk t && optFits ItemPriceArgs.fits a
  | .itemDelete t c _ => tagOk t && codeFits c
  | .itemGet t c _ => tagOk t && codeFits c
  | .itemBlock t c => tagOk t && codeFits c
  | .itemUnblock t c => tagOk t && codeFits c
  | .lagAccept t c _ => tagOk t && codeFits c
  | .taxSet t a => tagOk t && optFits TaxArgs.fits a
  | .priceParams t n => tagOk t && optFits (fitsOctets 4) n
  | .rosterSet t a => tagOk t && optFits RosterArgs.fits a
  | .tillStatus t l => tagOk t && shortFits l
  | .tillLockout t l => tagOk t && shortFits l
  | .tillRelease t l => tagOk t && shortFits l
  | .tillClear t l _ => tagOk t && shortFits l
  | .tillParams t a _ => tagOk t && optFits TillParamsArgs.fits a
  | .journalStatus t _ => tagOk t
  | .journalRead t a _ => tagOk t && optFits JournalReadArgs.fits a
  | .labelAdd t a => tagOk t && optFits LabelAddArgs.fits a
  | .labelBind t a => tagOk t && optFits LabelBindArgs.fits a
  | .labelUnbind t a => tagOk t && optFits LabelAddr.fits a
  | .labelRemove t a => tagOk t && optFits LabelAddr.fits a
  | .labelGet t a => tagOk t && optFits LabelAddr.fits a
  | .railSet t a => tagOk t && optFits RailSetArgs.fits a
  | .labelParams t a => tagOk t && optFits LabelParamsArgs.fits a
  | .templateBegin t n => tagOk t && shortFits n
  | .templateElement t a => tagOk t && optFits RawElement.fits a
  | .templateEnd t _ => tagOk t
  | .templateCancel t _ => tagOk t
  | .templateDelete t n => tagOk t && shortFits n
  | .templateKeep t n => tagOk t && shortFits n
  | .templateTemp t n => tagOk t && shortFits n
  | .overlaySet t a => tagOk t && optFits OverlayArgs.fits a
  | .overlayClear t n => tagOk t && shortFits n
  | .rangeSet t a => tagOk t && optFits RangeArgs.fits a
  | .rangeClear t n => tagOk t && shortFits n
  | .policySet t a => tagOk t && optFits PolicyArgs.fits a
  | .kindSet t a => tagOk t && optFits KindArgs.fits a
  | .hintSet t a => tagOk t && optFits HintArgs.fits a
  | .portalSet t _ => tagOk t
  | .guestService t a => tagOk t && optFits GuestServiceArgs.fits a
  | .guestAdmit t a => tagOk t && optFits GuestAdmitArgs.fits a
  | .guestBar t _ => tagOk t
  | .guestEnd t _ => tagOk t
  | .guestGet t _ => tagOk t
  | .profileSet t a => tagOk t && optFits ProfileArgs.fits a
  | .uplinkStatus t _ => tagOk t
  | .blockSize t n => tagOk t && optFits (fitsOctets 1) n
  | .exchangeStart t b => tagOk t && optFits textFits b
  | .exchangeAbort t _ => tagOk t
  | .exchangeStatus t _ => tagOk t
  | .cutoverAt t a => tagOk t && optFits CutoverAtArgs.fits a
  | .cutoverNow t d => tagOk t && optFits (optFits (fitsOctets 4)) d
  | .clockSet t n => tagOk t && optFits (fitsOctets 4) n
  | .identify t _ => tagOk t
  | .faultRead t d => tagOk t && optFits (fitsOctets 1) d
  | .faultClear t a => tagOk t && optFits FaultClearArgs.fits a
  | .reset t k => tagOk t && optFits (fitsOctets 1) k
  | .unknownKind t k => tagOk t && fitsOctets 1 k && !(decide (1 ≤ k) && decide (k ≤ 57))
  | .frameError c => c != .noRoom
  | .hostRead => true
  | .powerOn _ _ => true
  | .resetRequest _ _ => true
  | .branchClockTick => true
  | .lagDue c => codeOk c
  | .laneJoin _ l t => fitsOctets 1 l && textFits t
  | .laneStatus _ l _ => fitsOctets 1 l
  | .laneOpen _ l m => fitsOctets 1 l && fitsOctets 1 m
  | .laneAsk _ l m c q k _ => fitsOctets 1 l && fitsOctets 1 m && fitsOctets 8 c && fitsOctets 4 q && optFits (fitsOctets 4) k
  | .laneVoid _ l m n => fitsOctets 1 l && fitsOctets 1 m && fitsOctets 1 n
  | .laneClose _ l m t _ => fitsOctets 1 l && fitsOctets 1 m && fitsOctets 1 t
  | .laneCancel _ l m _ => fitsOctets 1 l && fitsOctets 1 m
  | .laneMessageMalformed => true
  | .pollTime l => laneOk l
  | .reconnectExpiry l _ => laneOk l
  | .abandonRetry l _ => laneOk l
  | .radioFrame _ => true
  | .radioHandoverFail (.rejected c) => fitsOctets 1 c -- log 89
  | .radioHandoverFail .noAnswer => true
  | .labelAck _ _ => true
  | .railPollAnswer _ => true
  | .radioFrameEnd => true
  | .definitionTimeout => true
  | .templateWalkStep => true
  | .frameForward _ f _ => decide (f.payload.length ≤ f.length) && fitsOctets 2 f.frameType
  | .egressPortReady _ _ => true
  | .wanReady => true
  | .payDropIntervalEnd => true
  | .guestIdle _ => true
  | .guestExpiry _ => true
  | .guestCooldownEnd _ => true
  | .accept n _ => fitsOctets 2 n
  | .jack n k _ => fitsOctets 2 n && fitsOctets 4 k
  | .bhead n b e c k => fitsOctets 2 n && fitsOctets 4 b && fitsOctets 4 e && fitsOctets 2 c && fitsOctets 2 k
  | .bpart n p es _ => fitsOctets 2 n && fitsOctets 2 p && fitsOctets 1 es.length && es.all RawChange.fits
  | .peerAbort n r => fitsOctets 2 n && fitsOctets 1 r
  | .strayDatagram => true
  | .helloTimeout => true
  | .uploadIntervalExpiry _ => true
  | .backResend => true
  | .partTimeout => true
  | .stagingPass1Step _ => true
  | .stagingPass2Step _ => true
  | .abortWalkStep _ => true
  | .cutoverScheduleDue => true
  | .drainLimitExpiry => true
  | .applyWalkStep _ => true
  | .mainPowerLoss => true

end Sys2Proof
end

