-- ==== Sys2Proof/Tests/Slice0.lean ====
section
/-! SUPPORT. Tests of the model: the spec's worked cases, an ill-formed command for each check of WellFormed.lean, and for each statement
with hypotheses a state and operands that meet them. -/

open Sys2Proof Sys2Proof.Machine

namespace Sys2Proof.Tests

set_option Elab.async false

/-! ### Commands that cannot come to the part -/

/-- A number of the given octets' first value too large for them. -/
def tooBig (w : Nat) : Nat := 256 ^ w

/-- A text of 256 characters, which one octet cannot count. -/
def longText : Text := List.replicate 256 65

/-- A price record that is in its octets. -/
def rawEach (u : Nat) : RawPrice := ⟨u, 0, 0, none, ⟨0, 0, 0⟩⟩

theorem test_wf_tag : (Instr.itemBlock 0 none).wf = false ∧ (Instr.itemBlock 256 none).wf = false ∧ (Instr.itemBlock 255 none).wf = true := by decide

theorem test_wf_code : (Instr.itemGet 1 (some (tooBig 8)) .clean).wf = false ∧ (Instr.lagDue 0).wf = false := by decide

theorem test_wf_item_put :
    (Instr.itemPut 1 (some ⟨tooBig 8, [], 0, rawEach 1⟩) .clean).wf = false ∧ (Instr.itemPut 1 (some ⟨1, longText, 0, rawEach 1⟩) .clean).wf = false ∧
    (Instr.itemPut 1 (some ⟨1, [], tooBig 2, rawEach 1⟩) .clean).wf = false ∧
    (Instr.itemPut 1 (some ⟨1, [], 0, rawEach (tooBig 4)⟩) .clean).wf = false := by decide +kernel

theorem test_wf_price :
    (Instr.itemPrice 1 (some ⟨1, ⟨1, 256, 0, none, ⟨0, 0, 0⟩⟩⟩) .clean).wf = false ∧
    (Instr.itemPrice 1 (some ⟨1, ⟨1, 0, 256, none, ⟨0, 0, 0⟩⟩⟩) .clean).wf = false ∧
    (Instr.itemPrice 1 (some ⟨1, ⟨1, 0, 0, some (tooBig 8), ⟨0, 0, 0⟩⟩⟩) .clean).wf = false ∧
    (Instr.itemPrice 1 (some ⟨1, ⟨1, 0, 0, none, ⟨256, 0, 0⟩⟩⟩) .clean).wf = false ∧
    (Instr.itemPrice 1 (some ⟨1, ⟨1, 0, 0, none, ⟨1, tooBig 4, 0⟩⟩⟩) .clean).wf = false ∧
    (Instr.itemPrice 1 (some ⟨1, ⟨1, 0, 0, none, ⟨2, tooBig 4, 0⟩⟩⟩) .clean).wf = false ∧
    (Instr.itemPrice 1 (some ⟨1, ⟨1, 0, 0, none, ⟨3, tooBig 2, 0⟩⟩⟩) .clean).wf = false ∧
    (Instr.itemPrice 1 (some ⟨1, ⟨1, 0, 0, none, ⟨3, 2, tooBig 4⟩⟩⟩) .clean).wf = false := by decide

theorem test_wf_till_requests :
    (Instr.taxSet 1 (some ⟨tooBig 2, 0⟩)).wf = false ∧ (Instr.taxSet 1 (some ⟨0, tooBig 4⟩)).wf = false ∧
    (Instr.rosterSet 1 (some ⟨tooBig 2, [], true, 0, 0⟩)).wf = false ∧ (Instr.rosterSet 1 (some ⟨1, longText, true, 0, 0⟩)).wf = false ∧
    (Instr.rosterSet 1 (some ⟨1, [], true, 256, 0⟩)).wf = false ∧ (Instr.rosterSet 1 (some ⟨1, [], true, 0, tooBig 2⟩)).wf = false ∧
    (Instr.tillStatus 1 (some (tooBig 2))).wf = false ∧ (Instr.tillParams 1 (some ⟨tooBig 2, 0⟩) .clean).wf = false ∧
    (Instr.tillParams 1 (some ⟨0, tooBig 4⟩) .clean).wf = false ∧ (Instr.journalRead 1 (some ⟨tooBig 4, none⟩) .clean).wf = false ∧
    (Instr.journalRead 1 (some ⟨1, some (tooBig 2)⟩) .clean).wf = false ∧ (Instr.priceParams 1 (some (tooBig 4))).wf = false := by decide +kernel

theorem test_wf_label_requests :
    (Instr.labelGet 1 (some ⟨tooBig 2, 0⟩)).wf = false ∧ (Instr.labelGet 1 (some ⟨0, 256⟩)).wf = false ∧
    (Instr.labelAdd 1 (some ⟨⟨0, 0⟩, some (tooBig 2)⟩)).wf = false ∧ (Instr.labelBind 1 (some ⟨⟨0, 0⟩, tooBig 8, none⟩)).wf = false ∧
    (Instr.labelBind 1 (some ⟨⟨0, 0⟩, 1, some (tooBig 2)⟩)).wf = false ∧ (Instr.railSet 1 (some ⟨tooBig 4, 0, 0⟩)).wf = false ∧
    (Instr.railSet 1 (some ⟨0, tooBig 4, 0⟩)).wf = false ∧ (Instr.railSet 1 (some ⟨0, 0, tooBig 2⟩)).wf = false ∧
    (Instr.labelParams 1 (some ⟨tooBig 2, 0⟩)).wf = false ∧ (Instr.labelParams 1 (some ⟨0, tooBig 8⟩)).wf = false := by decide

/-- A text without kind TEXT, a TEXT without its text, a CALL without its slot, a called slot elsewhere, and fields past their octets. -/
theorem test_wf_template_requests :
    (Instr.templateElement 1 (some ⟨0, 0, 0, 1, some [], none⟩)).wf = false ∧ (Instr.templateElement 1 (some ⟨4, 0, 0, 1, none, none⟩)).wf = false ∧
    (Instr.templateElement 1 (some ⟨6, 0, 0, 1, none, none⟩)).wf = false ∧ (Instr.templateElement 1 (some ⟨0, 0, 0, 1, none, some 1⟩)).wf = false ∧
    (Instr.templateElement 1 (some ⟨256, 0, 0, 1, none, none⟩)).wf = false ∧ (Instr.templateElement 1 (some ⟨0, tooBig 2, 0, 1, none, none⟩)).wf = false ∧
    (Instr.templateElement 1 (some ⟨0, 0, tooBig 2, 1, none, none⟩)).wf = false ∧ (Instr.templateElement 1 (some ⟨0, 0, 0, tooBig 2, none, none⟩)).wf = false ∧
    (Instr.templateElement 1 (some ⟨4, 0, 0, 1, some longText, none⟩)).wf = false ∧
    (Instr.templateElement 1 (some ⟨6, 0, 0, 1, none, some (tooBig 2)⟩)).wf = false ∧
    (Instr.overlaySet 1 (some ⟨tooBig 2, 0, 0, 0⟩)).wf = false ∧ (Instr.overlaySet 1 (some ⟨0, tooBig 2, 0, 0⟩)).wf = false ∧
    (Instr.overlaySet 1 (some ⟨0, 0, tooBig 4, 0⟩)).wf = false ∧ (Instr.overlaySet 1 (some ⟨0, 0, 0, tooBig 4⟩)).wf = false := by decide +kernel

theorem test_wf_routing_requests :
    (Instr.rangeSet 1 (some ⟨tooBig 2, 0, 0, true, 0, false, false⟩)).wf = false ∧ (Instr.rangeSet 1 (some ⟨0, 0, 0, true, 256, false, false⟩)).wf = false ∧
    (Instr.policySet 1 (some ⟨256, 0, 0⟩)).wf = false ∧ (Instr.policySet 1 (some ⟨0, 256, 0⟩)).wf = false ∧
    (Instr.policySet 1 (some ⟨0, 0, 256⟩)).wf = false ∧ (Instr.kindSet 1 (some ⟨tooBig 2, none⟩)).wf = false ∧
    (Instr.kindSet 1 (some ⟨0, some ⟨tooBig 4, 0, 0⟩⟩)).wf = false ∧ (Instr.kindSet 1 (some ⟨0, some ⟨0, tooBig 4, 0⟩⟩)).wf = false ∧
    (Instr.kindSet 1 (some ⟨0, some ⟨0, 0, 256⟩⟩)).wf = false ∧ (Instr.hintSet 1 (some ⟨256, 0, 0, 0, 0, 0⟩)).wf = false ∧
    (Instr.hintSet 1 (some ⟨0, 256, 0, 0, 0, 0⟩)).wf = false ∧ (Instr.hintSet 1 (some ⟨0, 0, 256, 0, 0, 0⟩)).wf = false ∧
    (Instr.hintSet 1 (some ⟨0, 0, 0, 256, 0, 0⟩)).wf = false ∧ (Instr.hintSet 1 (some ⟨0, 0, 0, 0, 256, 0⟩)).wf = false ∧
    (Instr.hintSet 1 (some ⟨0, 0, 0, 0, 0, 256⟩)).wf = false := by decide

theorem test_wf_guest_uplink_requests :
    (Instr.guestService 1 (some ⟨256, none⟩)).wf = false ∧ (Instr.guestService 1 (some ⟨0, some (tooBig 4)⟩)).wf = false ∧
    (Instr.guestAdmit 1 (some ⟨1, tooBig 8, 0⟩)).wf = false ∧ (Instr.guestAdmit 1 (some ⟨1, 60, tooBig 8⟩)).wf = false ∧
    (Instr.profileSet 1 (some ⟨256, 0, 0, 0, 0⟩)).wf = false ∧ (Instr.profileSet 1 (some ⟨0, tooBig 4, 0, 0, 0⟩)).wf = false ∧
    (Instr.profileSet 1 (some ⟨0, 0, tooBig 4, 0, 0⟩)).wf = false ∧ (Instr.profileSet 1 (some ⟨0, 0, 0, tooBig 4, 0⟩)).wf = false ∧
    (Instr.profileSet 1 (some ⟨0, 0, 0, 0, tooBig 4⟩)).wf = false := by decide

theorem test_wf_exchange_port_requests :
    (Instr.blockSize 1 (some 256)).wf = false ∧ (Instr.exchangeStart 1 (some longText)).wf = false ∧
    (Instr.cutoverAt 1 (some ⟨tooBig 4, none⟩)).wf = false ∧ (Instr.cutoverAt 1 (some ⟨0, some (tooBig 4)⟩)).wf = false ∧
    (Instr.cutoverNow 1 (some (some (tooBig 4)))).wf = false ∧ (Instr.clockSet 1 (some (tooBig 4))).wf = false ∧
    (Instr.faultRead 1 (some 256)).wf = false ∧ (Instr.faultClear 1 (some ⟨256, 0⟩)).wf = false ∧
    (Instr.faultClear 1 (some ⟨0, tooBig 2⟩)).wf = false ∧ (Instr.reset 1 (some 256)).wf = false ∧
    (Instr.unknownKind 1 1).wf = false ∧ (Instr.unknownKind 1 57).wf = false ∧ (Instr.unknownKind 1 256).wf = false ∧
    (Instr.unknownKind 1 58).wf = true ∧ (Instr.frameError .noRoom).wf = false := by decide +kernel

theorem test_wf_lane_messages :
    (Instr.laneJoin 1 256 []).wf = false ∧ (Instr.laneJoin 1 1 longText).wf = false ∧ (Instr.laneOpen 1 1 256).wf = false ∧
    (Instr.laneAsk 1 1 1 (tooBig 8) 1 none .clean).wf = false ∧ (Instr.laneAsk 1 1 1 1 (tooBig 4) none .clean).wf = false ∧
    (Instr.laneAsk 1 1 1 1 1 (some (tooBig 4)) .clean).wf = false ∧ (Instr.laneVoid 1 1 1 256).wf = false ∧
    (Instr.laneClose 1 1 1 256 .clean).wf = false ∧ (Instr.laneCancel 1 256 1 .clean).wf = false ∧
    (Instr.laneStatus 1 256 ⟨false, false, false, false⟩).wf = false ∧
    (Instr.pollTime 0).wf = false ∧ (Instr.reconnectExpiry 65 .clean).wf = false ∧ (Instr.abandonRetry 0 .clean).wf = false := by decide +kernel

theorem test_wf_traffic_and_radio :
    (Instr.radioHandoverFail (.rejected 256)).wf = false ∧ (Instr.frameForward .lan ⟨true, 1, tooBig 2, [], 60⟩ .clean).wf = false ∧
    (Instr.frameForward .lan ⟨true, 1, 2048, [1, 2], 1⟩ .clean).wf = false := by decide

theorem test_wf_datagrams :
    (Instr.accept (tooBig 2) .clean).wf = false ∧ (Instr.jack 1 (tooBig 4) .clean).wf = false ∧ (Instr.bhead 1 (tooBig 4) 0 0 0).wf = false ∧
    (Instr.bhead 1 0 (tooBig 4) 0 0).wf = false ∧ (Instr.bhead 1 0 0 (tooBig 2) 0).wf = false ∧ (Instr.bhead 1 0 0 0 (tooBig 2)).wf = false ∧
    (Instr.bpart 1 (tooBig 2) [] true).wf = false ∧ (Instr.bpart 1 1 (List.replicate 256 ⟨2, 1, none⟩) true).wf = false ∧
    (Instr.bpart 1 1 [⟨0, 1, none⟩] true).wf = false ∧ (Instr.bpart 1 1 [⟨2, 1, some ⟨[], 0, rawEach 1⟩⟩] true).wf = false ∧
    (Instr.bpart 1 1 [⟨256, 1, none⟩] true).wf = false ∧ (Instr.bpart 1 1 [⟨2, tooBig 8, none⟩] true).wf = false ∧
    (Instr.bpart 1 1 [⟨0, 1, some ⟨longText, 0, rawEach 1⟩⟩] true).wf = false ∧
    (Instr.bpart 1 1 [⟨0, 1, some ⟨[], 256, rawEach 1⟩⟩] true).wf = false ∧
    (Instr.bpart 1 1 [⟨0, 1, some ⟨[], 0, ⟨1, 0, 1, some (tooBig 4), ⟨0, 0, 0⟩⟩⟩⟩] true).wf = false ∧ (Instr.peerAbort 1 256).wf = false := by decide +kernel

/-! ### Worked cases of the spec -/

/-- The coffee of 2.6: EACH at 649 with 25.0 %, 250 g against the kilogram. -/
def coffee : PriceRecord := ⟨649, .each, .perKg, some 250, .percent 250⟩

/-- The coffee's previous record, 699, version 30. -/
def coffeeBefore : Previous := ⟨⟨699, .each, .noBasis, none, .noPromo⟩, 30⟩

/-- The apples: 329 by weight. -/
def apples : PriceRecord := ⟨329, .byWeight, .noBasis, none, .noPromo⟩

/-- The yoghurt: 85, four for 300. -/
def yoghurt : PriceRecord := ⟨85, .each, .noBasis, none, .multibuy 4 300⟩

/-- 2.6, the full basket: the four line amounts. -/
theorem test_line_amounts :
    lineAmount coffee 2 = 973 ∧ lineAmount apples 1235 = 406 ∧ lineAmount yoghurt 3 = 255 ∧ lineAmount yoghurt 2 = 170 := by decide

/-- 2.6, the coffee's line answer: 973 from CURRENT with LABEL_LAG, and version 31. -/
theorem test_coffee_answer :
    computeLine coffee 31 (some coffeeBefore) 2 0 = .ok ⟨973, .current, some 31, true, ⟨649, .each, .percent 250⟩⟩ := by decide

/-- 2.6, the tea: the previous record's 1,137 wins. -/
theorem test_tea_answer :
    computeLine ⟨399, .each, .noBasis, none, .noPromo⟩ 12 (some ⟨⟨429, .each, .noBasis, none, .fixedOff 50⟩, 11⟩) 3 0 =
      .ok ⟨1137, .previous, some 11, true, ⟨429, .each, .fixedOff 50⟩⟩ := by decide

/-- 2.6, the tomatoes: of another mode, the previous record has no choice. -/
theorem test_tomatoes_answer :
    computeLine ⟨399, .byWeight, .noBasis, none, .noPromo⟩ 6 (some ⟨⟨45, .each, .noBasis, none, .noPromo⟩, 5⟩) 600 0 =
      .ok ⟨239, .current, some 6, true, ⟨399, .byWeight, .noPromo⟩⟩ := by decide

/-- A line from a record, not voided. -/
def lineFrom (n code q version band : Nat) (r : PriceRecord) : Line :=
  ⟨n, code, q, lineAmount r q, .current, some version, r.terms, band, false, false⟩

/-- The four lines of 2.6. -/
def basketLines : List Line :=
  [lineFrom 1 11 2 31 1 coffee, lineFrom 2 12 1235 4 1 apples, lineFrom 3 13 3 9 2 yoghurt, lineFrom 4 13 2 9 2 yoghurt]

/-- Bands 1 and 2 at 7.00 % and 20.00 %. -/
def rates : Vector Nat 8 := #v[0, 700, 2000, 0, 0, 0, 0, 0]

/-- 2.6, the close: the group of 40, the total 1,764 and the two taxes. -/
theorem test_close_figures :
    groupDiscounts basketLines = [⟨13, some 9, 2, 1, 40⟩] ∧ basketTotal basketLines = 1764 ∧
    bandTaxes rates basketLines = [⟨1, 1379, 90⟩, ⟨2, 385, 64⟩] := by decide

/-- 3.7: the close at 140 takes 64 and 43. -/
theorem test_close_figures_with_void :
    bandTaxes rates [lineFrom 1 11 2 31 1 coffee, { lineFrom 2 12 1235 4 1 apples with voided := true }, lineFrom 3 13 3 9 2 yoghurt] =
      [⟨1, 973, 64⟩, ⟨2, 255, 43⟩] := by decide

/-- 2.6, multi-buy across a change of version: two groups, neither listed. -/
theorem test_multibuy_by_version :
    groupDiscounts [lineFrom 1 13 3 9 2 yoghurt, lineFrom 2 13 2 10 2 ⟨85, .each, .noBasis, none, .multibuy 4 280⟩] = [] := by decide

/-- 2.6, the labels: coffee 4.87 and 1,948 a kilogram, the badge "4 FOR 3.00", and the two edges of the comparison field. -/
theorem test_label_figures :
    labelFigures coffee = ⟨4, 87, false, none, some ⟨.perKg, some 1948⟩⟩ ∧ labelFigures yoghurt = ⟨0, 85, false, some ⟨4, 3, 0⟩, none⟩ ∧
    comparisonField ⟨329, .byWeight, .per100g, none, .noPromo⟩ = some ⟨.per100g, some 33⟩ ∧
    comparisonField ⟨1250, .each, .per100g, some 1, .noPromo⟩ = some ⟨.per100g, none⟩ := by decide

/-- R24: 8 by 3 is 3, 7 by 3 is 2. -/
theorem test_round : roundDiv 8 3 = 3 ∧ roundDiv 7 3 = 2 := by decide

/-- 2.2: 10,010 by 999 is within the line limit, 10,011 is over it. -/
theorem test_line_limit :
    (computeLine ⟨10010, .each, .noBasis, none, .noPromo⟩ 1 none 999 0).toOption.map (·.amount) = some 9999990 ∧
    computeLine ⟨10011, .each, .noBasis, none, .noPromo⟩ 1 none 999 0 = .error .overLimit := by decide

/-- A SALE of so many lines and groups, none of them in detail. -/
def saleOf (lines groups : Nat) : JournalContent :=
  .sale ⟨1, none, 1, 1, 0, 0, .cash, 0, [], false, false, false⟩ (List.replicate lines (lineFrom 1 1 1 1 1 coffee))
    (List.replicate groups ⟨1, none, 0, 1, 1⟩)

/-- R66: a read of an intact SALE header page shows the record's DAMAGED mark. -/
theorem test_sale_header_shows_the_mark :
    ([false, true].map fun d => match JournalRecord.readPage ⟨[], []⟩ 0 ⟨1, 0, 2, 0, false, d, [], saleOf 3 0⟩ with
      | .saleHeader (some _) 3 0 b => some b | _ => none) = [some false, some true] := by decide +kernel

/-- R65: the page counts of its table, and of the largest record. -/
theorem test_page_counts :
    [saleOf 3 0, saleOf 8 0, saleOf 8 1, saleOf 20 2, saleOf 200 200].map (·.pageCount) = [2, 2, 3, 4, 51] := by decide +kernel

/-- R81: rail 412 on code 30, rail 7 on code 203. -/
theorem test_wakes :
    latestWake 30 412 1041 = some 1012 ∧ isWake 30 412 1042 = true ∧ windowWake 30 412 1014 = some 1012 ∧ windowWake 30 412 1015 = none ∧
    isWake 203 7 487 = true ∧ isWake 203 7 967 = true ∧ isWake 203 7 1447 = true ∧ latestWake 203 7 486 = some 7 := by decide

/-- R186: the identity record's check. -/
theorem test_identity : identity = ⟨19533, 4100, 1, capacities, 15344⟩ := by decide +kernel

/-- R177: the check is the one whose value over "123456789" is 0x29B1 (start 0xFFFF, polynomial 0x1021, no inversion). -/
theorem test_crc : crc [49, 50, 51, 52, 53, 54, 55, 56, 57] = 0x29B1#16 := by decide +kernel

/-- R177, R178: an IDENTIFY request is kind 54, tag 9, no body; its frame is received as that command, and one with a bad check is not. -/
theorem test_receive :
    (receive .clean .ready (frameOctets 54 9 [])).2 = [.identify 9 true] ∧
    (receive .clean .ready (165 :: be 2 0 ++ [54, 9, 0, 0])).2 = [.frameError .check] ∧
    (receive .clean .ready [1, 2, 3]).2 = [.frameError .sync] := by decide +kernel

/-- R178: kinds 1, 10 and 18 with the octets of their fields; ITEM-BLOCK's code takes 8. -/
theorem test_request_bodies :
    decodeRequest 1 3 (be 8 7 ++ be 1 0 ++ be 2 1 ++ be 4 549 ++ be 1 0 ++ be 1 0 ++ be 1 0 ++ be 1 0) .clean =
      .itemPut 3 (some ⟨7, [], 1, rawEach 549⟩) .clean ∧
    decodeRequest 10 3 (be 2 7 ++ be 1 1 ++ [65] ++ be 1 1 ++ be 1 0 ++ be 2 0) .clean = .rosterSet 3 (some ⟨7, [65], true, 0, 0⟩) ∧
    decodeRequest 18 3 (be 2 412 ++ be 1 1 ++ be 1 0) .clean = .labelAdd 3 (some ⟨⟨412, 1⟩, none⟩) ∧
    decodeRequest 57 3 (be 1 1) .clean = .reset 3 (some 1) ∧ decodeRequest 58 3 [] .clean = .unknownKind 3 58 ∧
    decodeRequest 5 3 (be 8 7) .clean = .itemBlock 3 (some 7) ∧ decodeRequest 5 3 (be 8 7 ++ [0]) .clean = .itemBlock 3 none := by decide +kernel

/-- R41: an ASK of two coffees as a till sends it, and a kind that no till sends. -/
theorem test_lane_octets :
    decodeLane 5 ([4, 7] ++ be 1 2 ++ be 8 11 ++ be 4 2 ++ be 1 0) .clean = .laneAsk 5 7 2 11 2 none .clean ∧
    decodeLane 5 [3, 7, 1] .clean = .laneOpen 5 7 1 ∧ decodeLane 5 [8, 7] .clean = .laneMessageMalformed := by decide +kernel

/-- R41: the lane stands after the kind in ANSWER, TOTAL and REFUSE as in every message. -/
theorem test_reply_octets :
    (encLaneMessage (.refuse 64 (some 5) .badLine)).take 2 = [13, 64] ∧ (encLaneMessage (.total 64 5 0 [] 1 1)).take 2 = [12, 64] ∧
    (encLaneMessage (.answer 64 5 0 0 none false false 0 1)).take 2 = [11, 64] := by decide +kernel

/-- R159, 10.7: BHEAD 771 of session 12 as head office sends it. -/
theorem test_datagram_octets :
    decodeDatagram (be 1 7 ++ be 2 12 ++ be 4 771 ++ be 4 58 ++ be 2 3 ++ be 2 24230) .clean = .bhead 12 771 58 3 24230 ∧
    decodeDatagram (be 1 5 ++ be 2 12) .clean = .accept 12 .clean ∧ decodeDatagram [1, 0, 12] .clean = .strayDatagram := by decide +kernel

/-- A queue of `n` STARTED reports. -/
def fullReports (n : Nat) : List Report := List.replicate n ⟨0, .started .cold .power .absent 0 false⟩

/-- R183, its example: the newest entry becomes OVERRUN 2, then counts to 5, and the queue stays at 64. -/
theorem test_overrun :
    let q1 := queueReport 9 (.labelBattery ⟨1, 1⟩ none 2) (fullReports 64)
    let q2 := queueReport 9 (.frameError .sync 1) (queueReport 9 (.frameError .sync 1) (queueReport 9 (.frameError .sync 1) q1))
    q1.length = 64 ∧ q1.getLast?.map (·.body) = some (.overrun 2 9) ∧ q2.length = 64 ∧ q2.getLast?.map (·.body) = some (.overrun 5 9) ∧
    (queueReport 10 (.frameError .sync 1) (queueReport 10 (.frameError .sync 1) (queueReport 10 (.frameError .sync 1)
      (q2.drop 2)))).getLast?.map (·.body) = some (.overrun 2 10) := by decide

/-! ### States to test on -/

/-- The part at a branch second, its clock set and as many seconds passed. -/
def sec (n : Nat) : State := { State.reset with msp := { State.reset.msp with clock := ⟨n, true, n⟩, reports := [] } }

/-- The state a command gives; the state itself where it gives none. -/
def after (c : Instr) (s : State) : State := match exec c s with | .next t => t | _ => s

/-- The states of several commands one after another. -/
def run (cs : List Instr) (s : State) : State := cs.foldl (fun s c => after c s) s

/-- An IPv4 address from its octets. -/
def ip (a b c d : Nat) : Ipv4 := BitVec.ofNat 32 (((a * 256 + b) * 256 + c) * 256 + d)

/-- A mask of so many ones. -/
def ones (n : Nat) : Ipv4 := BitVec.ofNat 32 (2 ^ 32 - 2 ^ (32 - n))

/-- A packet of 24 octets with its checksum, time-to-live 64, and the second transport port as given. -/
def packet (src dst : Ipv4) (protocol port : Nat) : List Octet :=
  let h := fun c : Nat => be 1 69 ++ be 1 0 ++ be 2 24 ++ be 4 0 ++ be 1 64 ++ be 1 protocol ++ be 2 c ++ be 4 src.toNat ++ be 4 dst.toNat
  h (65535 - onesSum (h 0)) ++ be 2 1024 ++ be 2 port

/-- A frame that holds it. -/
def frameOf (src dst : Ipv4) (protocol port : Nat) : TrafficFrame := ⟨true, 9, 2048, packet src dst protocol port, 60⟩

/-- The tables of 7.8. -/
def routing : State :=
  let z := (sec 1000).zfw
  let e := fun (b m : Ipv4) (zn : RangeZone) (p c : Bool) => (⟨b, m, true, zn, p, c⟩ : RangeEntry)
  { sec 1000 with
    gat := { (sec 1000).gat with portal := some ⟨ip 10 20 1 10, ip 10 99 0 0, ones 16⟩ }
    zfw := { z with
      ranges := (((((((z.ranges.setIfInBounds 0 (e (ip 10 20 0 0) (ones 16) .store false false)).setIfInBounds 1
        (e (ip 10 20 64 0) (ones 20) .till false false)).setIfInBounds 2 (e (ip 172 30 8 5) (ones 32) .headoffice true false)).setIfInBounds 3
        (e (ip 172 30 0 0) (ones 16) .headoffice false false)).setIfInBounds 4 (e (ip 198 51 100 0) (ones 24) .payment false true)).setIfInBounds 5
        (e (ip 203 0 113 0) (ones 24) .payment false false)).setIfInBounds 6 (e (ip 192 0 2 66) (ones 32) .blocked false false))
      policy := (z.policy.setIfInBounds 11 .paymentOnly).setIfInBounds 29 .paymentOnly
      kinds := z.kinds.setIfInBounds 0 (some ⟨8000, 8099, .payment⟩)
      hints := z.hints.setIfInBounds 4 ⟨.pay, .store, .store, .store⟩ } }

/-- What a frame leaves in PAY, STORE, the LAN and till FIFOs, and in the denied counts of TILL, GUEST and BLOCKED. -/
def placed (port : Port) (f : TrafficFrame) : List Nat :=
  let t := after (.frameForward port f .clean) routing
  [t.uls.pay.frames.length, t.uls.store.frames.length, t.zfw.lanFifo.length, t.zfw.tillFifo.length, tget t.zfw.counts.denied 1 0,
    tget t.zfw.counts.denied 2 0, tget t.zfw.counts.denied 6 0, t.zfw.counts.spoofedLan]

/-- 7.8, the rows from the till port. -/
theorem test_classify_till :
    placed .till (frameOf (ip 10 20 64 31) (ip 198 51 100 7) 6 8020) = [1, 0, 0, 0, 0, 0, 0, 0] ∧
    placed .till (frameOf (ip 10 20 64 31) (ip 203 0 113 9) 6 8020) = [0, 0, 0, 0, 1, 0, 0, 0] := by decide +kernel

/-- 7.8, the rows from the LAN port. -/
theorem test_classify_lan :
    placed .lan (frameOf (ip 10 20 3 4) (ip 172 30 8 5) 17 53) = [0, 1, 0, 0, 0, 0, 0, 0] ∧
    placed .lan (frameOf (ip 10 20 64 9) (ip 10 20 3 4) 6 80) = [0, 0, 1, 0, 0, 0, 0, 0] ∧
    placed .lan (frameOf (ip 172 30 1 1) (ip 10 20 3 4) 6 80) = [0, 0, 0, 0, 0, 0, 0, 1] := by decide +kernel

/-- 7.8, the rows from the WAN and guest ports. -/
theorem test_classify_wan_guest :
    placed .wan (frameOf (ip 198 51 100 7) (ip 10 20 64 31) 6 8020) = [0, 0, 0, 1, 0, 0, 0, 0] ∧
    placed .wan (frameOf (ip 192 0 2 66) (ip 10 20 3 4) 6 80) = [0, 0, 0, 0, 0, 0, 1, 0] ∧
    placed .guest (frameOf (ip 10 99 4 17) (ip 10 20 64 31) 6 80) = [0, 0, 0, 0, 0, 1, 0, 0] := by decide +kernel

/-- A header whose checksum is the one of the common textbook case, 0xB861 at time-to-live 64, is forwarded at 63 with 0xB961. -/
theorem test_forward_header :
    let h : List Octet := [0x45, 0, 0, 0x14, 0, 0, 0x40, 0, 0x40, 0x11, 0xB8, 0xC0, 0xC0, 0xA8, 0, 1, 0xC0, 0xA8, 0, 0xC7]
    (parsePacket h).map (fun p => (p.forwarded.drop 8).take 4) = some [0x3F, 0x11, 0xB9, 0xC0] ∧
    parsePacket (h.set 10 0) = none := by decide +kernel

/-- Frames of the given lengths. -/
def frames (ls : List Nat) : List UplinkFrame := ls.map fun n => ⟨.packet [], n⟩

/-- 9.5 before its first event. -/
def uplinkStart : State :=
  { sec 1000 with uls := { (sec 1000).uls with
      store := ⟨frames [1514, 1514], 0, 0, 0⟩, exch := ⟨frames [1200, 1200, 1200], 0, 0, 0⟩, guest := ⟨frames [1000, 1000, 1000], 0, 0, 0⟩
      holder := .store, allowance := 3000, inForce := .night } }

/-- 9.5, events 1 to 9: sent lengths, holder and allowance. -/
theorem test_arbiter :
    let s2 := run [.wanReady, .wanReady] uplinkStart
    let s3 := after .wanReady (enqueueClass .pay ⟨.packet [], 300⟩ s2)
    let s4 := after .wanReady s3
    let s7 := run [.wanReady, .wanReady, .wanReady] s4
    let s9 := run [.wanReady, .wanReady] s7
    s2.uls.allowance = 0 ∧ s2.uls.holder = .store ∧ s3.out.wan.map (·.length) = some 300 ∧ s4.uls.holder = .exch ∧ s4.uls.allowance = 46800 ∧
    s7.uls.holder = .guest ∧ s7.uls.allowance = 1000 ∧ s9.uls.allowance = 1000 ∧ s9.uls.guest.sentBytes = 3000 ∧ s9.uls.exch.sentFrames = 3 := by
  decide +kernel

/-- R148, its example: at 70 GUEST frames a THROTTLED one is dropped and counted twice, at 63 it joins. -/
theorem test_throttled :
    let full := { sec 1 with uls := { (sec 1).uls with guest := ⟨frames (List.replicate 70 100), 0, 0, 0⟩ } }
    let room := { sec 1 with uls := { (sec 1).uls with guest := ⟨frames (List.replicate 63 100), 0, 0, 0⟩ } }
    (enqueueGuest true ⟨.packet [], 100⟩ full).uls.throttledDrops = 1 ∧ (enqueueGuest true ⟨.packet [], 100⟩ full).uls.guest.drops = 1 ∧
    (enqueueGuest true ⟨.packet [], 100⟩ room).uls.guest.frames.length = 64 := by decide +kernel

/-- A price of an item sold EACH with no promotion. -/
def plain (u : Nat) : PriceRecord := ⟨u, .each, .noBasis, none, .noPromo⟩

/-- The labels A and B of rail 412. -/
def labelA : LabelAddr := ⟨412, 0⟩

/-- See labelA. -/
def labelB : LabelAddr := ⟨412, 1⟩

/-- An IDLE entry bound to item 7 and confirmed at a version. -/
def idleLabel (a : LabelAddr) (v : Nat) : LabelEntry :=
  ⟨a, some 7, 0, .idle, some v, some 1, some [], false, none, none, none, 0, 0, some 9, false, some 900⟩

/-- Item 7 at version `v` with labels A and B confirmed at it. -/
def itemAt (v u : Nat) : ItemRecord :=
  ⟨7, [], 1, false, false, some (plain u), none, none, v, [⟨labelA, some v, false⟩, ⟨labelB, some v, false⟩], 0, none, false⟩

/-- The part with that item and its two labels. -/
def shop (n v u : Nat) : State :=
  let s := (sec n).putItem (itemAt v u)
  { s with lrc := { s.lrc with directory := [idleLabel labelA v, idleLabel labelB v] } }

/-- The clock of a state moved on. -/
def atSec (n : Nat) (s : State) : State :=
  { s with msp := { s.msp with clock := ⟨n, true, n⟩, replies := [] }, lrc := { s.lrc with frameDue := true } }

/-- An ITEM-PRICE of item 7. -/
def price (u : Nat) : Instr := .itemPrice 1 (some ⟨7, rawEach u⟩) .clean

/-- 1.4, two changes before the labels confirm, to the change at 1,200: version 9, count 2, previous 499, lag start 1,000. -/
theorem test_two_changes :
    let s := after (price 529) (atSec 1200 (after (price 499) (shop 1000 7 549)))
    (s.item 7).map (fun r => (r.version, r.count, r.previous, r.lagStart)) = some (9, 2, some ⟨plain 499, 8⟩, some 1000) ∧
    (s.jnl.records.map (·.content)) = [.price 7 (some 549) (some 499) .itemPrice, .price 7 (some 499) (some 529) .itemPrice] := by decide +kernel

/-- 1.4 from 2,800: LABEL-LAG at 1,000 + 1,800; LAG-ACCEPT at 2,900 excludes B and ends previous. -/
theorem test_lag :
    let s := atSec 1200 (after (price 499) (shop 1000 7 549))
    let t := after (.lagDue 7) (atSec 2800 s)
    let u := after (.lagAccept 1 (some 7) .clean) (atSec 2900 t)
    (after (.lagDue 7) (atSec 2799 s)).msp.reports = [] ∧ t.msp.reports.length = 1 ∧
    (u.item 7).map (fun r => (r.count, r.previous, r.lagStart)) = some (0, none, none) ∧
    u.lrc.directory.map (·.excluded) = [true, true] := by decide +kernel

/-- A radio frame that no rail is polled in, as RADIO_FRAME makes it once it has looked for a rail to poll. -/
def unpolledFrame (s : State) : State :=
  let g := grantAll .clean s.now (s.lrc.granted s.now none) s
  handOver s.now none g.2 g.1

/-- 5.8 to the frame end of 1,012: both granted at version 15; A confirms, B waits as a retry. -/
theorem test_rail_sequence :
    let s := unpolledFrame (atSec 1012 (after (price 499) (shop 1005 14 549)))
    let t := run [.labelAck 0 (some ⟨⟨some 15, 1, []⟩, 9⟩), .radioFrameEnd] s
    (s.lrc.frame.map (fun f => f.grants.map (·.addr))) = some [labelA, labelB] ∧ s.lrc.directory.map (·.state) = [.sent, .sent] ∧
    t.lrc.directory.map (fun e => (e.state, e.confirmed, e.retries)) = [(.idle, some 15, 0), (.queued, some 14, 1)] ∧
    t.lrc.queue.map (fun q => (q.addr, q.reason, q.kind)) = [(labelB, .price, .retry)] ∧ (t.item 7).map (·.count) = some 1 ∧
    (unpolledFrame (atSec 1013 t)).lrc.frame.map (·.grants.length) = some 0 := by decide +kernel

/-- R113, R115: two overlays that share a stamp both stand, in order of their numbers. -/
theorem test_equal_stamps :
    let z := (sec 1).tps
    let o := fun slot : Nat => (some ⟨slot, 400, 419, 1⟩ : Option Overlay)
    (({ z with overlays := (z.overlays.setIfInBounds 3 (o 6)).setIfInBounds 1 (o 5) } : TemplateStore).coveringAsc 410).map (·.slot) = [5, 6] ∧
    ({ z with overlays := (z.overlays.setIfInBounds 3 (o 6)).setIfInBounds 1 (o 5) } : TemplateStore).stamp 410 = [1, 1] := by decide +kernel

/-- 6.8, the weekend overlay: revision 1, stamp 12, the face of rail 410, and the deletion that clears overlay 2. -/
theorem test_weekend_overlay :
    let z := (sec 1000).tps
    let s := { sec 1000 with tps := { z with
      overlayCounter := 11, slots := z.slots.setIfInBounds 6 ⟨.defined, some [⟨.text [83, 65, 86, 69], 0, 0, 2⟩], 3, some .permanent⟩ } }
    let t := run [.templateBegin 1 (some 5), .templateElement 2 (some ⟨6, 5, 20, 1, none, some 6⟩),
      .templateElement 3 (some ⟨5, 6, 0, 2, none, none⟩), .templateEnd 4 true, .templateWalkStep, .overlaySet 5 (some ⟨2, 5, 400, 419⟩)] s
    let u := after (.templateDelete 6 (some 5)) t
    (t.tps.slot 5).revision = 1 ∧ (t.tps.slot 5).permanence = some .temporary ∧ t.tps.walks = [] ∧ t.tps.stamp 410 = [12] ∧ t.tps.stamp 420 = [] ∧
    t.tps.resolve 0 410 = [⟨0, 0, .description, 1, []⟩, ⟨3, 0, .priceMain, 4, []⟩, ⟨3, 12, .priceFraction, 2, []⟩,
      ⟨5, 20, .text, 2, [83, 65, 86, 69]⟩, ⟨6, 0, .promoBadge, 2, []⟩, ⟨7, 0, .comparison, 1, []⟩] ∧
    u.tps.overlay 2 = none ∧ (u.tps.slot 5).state = .empty ∧ u.tps.walks.map (·.slot) = [5] := by decide +kernel

/-- A journal record of so many pages at a position; what it holds does not matter here. -/
def heldRecord (seq pos pages : Nat) : JournalRecord := ⟨seq, pos, pages, 0, true, false, [], .lag 7 1⟩

/-- The journal of 10.7: records A to D from 9,000 to 9,009. -/
def nightJournal : Journal :=
  ⟨[heldRecord 5001 9000 2, heldRecord 5002 9002 3, heldRecord 5003 9005 1, heldRecord 5004 9006 4], ⟨9000, 5001⟩, ⟨9000, 5001⟩,
    ⟨9010, 5005⟩, none, true, true, 0⟩

/-- The exchange session 12 of 10.7 in OPENING, block size 4, and the peer of 7.8. -/
def night : State :=
  { routing with
    jnl := nightJournal, itb := { routing.itb with epoch := 57 }
    xce := { routing.xce with
      blockSize := some 4, counter := 12
      session := { ExchangeSession.idle with
        state := .opening, number := 12, branch := [65], startTag := 1, attempts := 1, peer := some (ip 172 30 8 5), helloDue := some 1030 } } }

/-- 10.7: ACCEPT lays three blocks and sends them; JACK 1 passes A; JACK 3 passes the rest and enters DOWNLOAD. -/
theorem test_night_upload :
    let s := after (.accept 12 .clean) night
    let t := after (.jack 12 1 .clean) s
    let u := after (.jack 12 3 .clean) t
    s.xce.session.state = .upload ∧ s.xce.session.laid = 3 ∧ s.xce.session.highestSent = 3 ∧ s.jnl.limit = some ⟨9010, 5005⟩ ∧
    s.uls.inForce = .night ∧ t.jnl.mark = ⟨9002, 5002⟩ ∧ u.jnl.mark = ⟨9010, 5005⟩ ∧ u.xce.session.state = .download ∧ u.jnl.limit = none := by
  decide +kernel

/-- 4.6, steps 1 to 4 at its figures: a full journal refuses 2 pages, takes 1, and takes 2 after A is acknowledged. -/
theorem test_full_journal :
    let j : Journal := ⟨[heldRecord 60001 0 4, heldRecord 60002 4 1, heldRecord 60003 5 5, heldRecord 60004 10 131061], ⟨0, 60001⟩, ⟨0, 60001⟩,
      ⟨131071, 92410⟩, some ⟨131071, 92410⟩, false, true, 0⟩
    let s := { sec 1000 with jnl := j }
    let a := journalAppend .clean (saleOf 3 0) s
    let b := journalAppend .clean (.price 7 none none .itemPrice) a.1
    let c := acknowledge 4 b.1
    let d := journalAppend .clean (saleOf 3 0) c
    a.2 = none ∧ a.1.jnl.fullArmed = false ∧ a.1.msp.reports.length = 1 ∧ b.2 = some 92410 ∧ b.1.jnl.unuploaded = 131072 ∧
    c.jnl.mark = ⟨4, 60002⟩ ∧ c.jnl.unuploaded = 131068 ∧ c.jnl.reclaimable = 4 ∧ d.2 = some 92411 ∧ d.1.jnl.held = 131070 ∧
    d.1.jnl.free = 2 ∧ d.1.jnl.oldest = ⟨4, 60002⟩ := by decide +kernel

/-- A nearly full journal: records of 4, 1, 131061 pages, the first two acknowledged, 6 pages free. -/
def fullJournal : Journal :=
  ⟨[heldRecord 1 0 4, heldRecord 2 4 1, heldRecord 3 5 131061], ⟨0, 1⟩, ⟨5, 3⟩, ⟨131066, 4⟩, some ⟨131066, 4⟩, true, true, 0⟩

/-- 11 pages of space: one more is refused and reported; 7 reclaim one record, 11 reclaim two, and 6 none; each reaches the high-water
level. An extent at the mark, one past the limit, and one that passes the rest. -/
theorem test_witness_JournalReclaimsRefusesAndMovesItsMark :
    let s := { sec 1000 with jnl := fullJournal }
    let put := fun lines : Nat => (journalAppend .clean (saleOf lines 0) s).1
    s.jnl.space = 11 ∧ s.jnl.free = 6 ∧ (saleOf 81 0).pageCount = 12 ∧ (put 81).jnl.records.length = 3 ∧ (put 81).jnl.fullArmed = false ∧
    (put 81).msp.reports = [⟨1000, .journalFull .sale 12 131061 6⟩] ∧
    (saleOf 40 0).pageCount = 6 ∧ (put 40).jnl.oldest = ⟨0, 1⟩ ∧ (saleOf 48 0).pageCount = 7 ∧ (put 48).jnl.oldest = ⟨4, 2⟩ ∧
    (saleOf 80 0).pageCount = 11 ∧ (put 80).jnl.oldest = ⟨5, 3⟩ ∧ (put 80).jnl.append = ⟨5, 5⟩ ∧
    (put 80).msp.reports = [⟨1000, .journalHigh 131072 0 3⟩] ∧ (put 80).jnl.highArmed = false ∧
    (acknowledge 5 s).jnl.mark = ⟨5, 3⟩ ∧ (acknowledge 131067 s).jnl.mark = ⟨5, 3⟩ ∧ (acknowledge 131066 s).jnl.mark = ⟨131066, 4⟩ ∧
    (acknowledge 131066 (put 81)).jnl.fullArmed = true := by decide +kernel

/-- Device D of 8.7, in a state with a quota and bytes used. -/
def guestD (st : GuestState) (quota used last : Nat) : GuestSession :=
  ⟨9, st, some (ip 10 99 4 17), 900, some 1000, some 4600, quota, used, last, false⟩

/-- The part with an open guest service and that session. -/
def lounge (n : Nat) (g : GuestSession) : State := { sec n with gat := { (sec n).gat with isOpen := true, sessions := [g] } }

/-- R140, R142: past its cooldown an EXPIRED session gives way only once its cooldown-end event is taken. -/
theorem test_cooldown_end_makes_a_candidate :
    (lounge 4900 (guestD .expired 0 0 0)).gat.candidate = none ∧
    ((after (.guestCooldownEnd 9) (lounge 4900 (guestD .expired 0 0 0))).gat.candidate).map (·.hw) = some 9 := by decide +kernel

/-- 8.7 at 1,010 and at 2,502: the debit, and the frame that passes the quota. -/
theorem test_guest_debit :
    (judgeGuest false 1200 (guestD .admitted 5000 0 1000) (lounge 1010 (guestD .admitted 5000 0 1000))).2.map (fun r => (r.1.quota, r.1.used, r.2)) =
      some (3800, 1200, false) ∧
    (judgeGuest false 900 (guestD .admitted 772 4228 2501) (lounge 2502 (guestD .admitted 772 4228 2501))).2.map (fun r => (r.1.quota, r.1.used, r.2)) =
      some (0, 5128, true) := by decide +kernel

/-- 8.7 at 1,910 and 4,600: idle at 1,010 + 900, expiry at 4,600. -/
theorem test_guest_times :
    ((after (.guestIdle 9) (lounge 1909 (guestD .admitted 3800 1200 1010))).guest 9).map (·.state) = some .admitted ∧
    ((after (.guestIdle 9) (lounge 1910 (guestD .admitted 3800 1200 1010))).guest 9).map (·.state) = some .idle ∧
    ((after (.guestExpiry 9) (lounge 4600 (guestD .throttled 0 5128 2600))).guest 9).map (fun g => (g.state, g.used)) = some (.expired, 5128) := by
  decide +kernel

/-! ### States and operands that meet the statements' hypotheses -/

/-- A till's station. -/
def station : HwAddr := 5

/-- The till id of 3.7. -/
def tillId : Text := [76, 78, 48, 55, 65, 48, 48, 49]

/-- A session of that till. -/
def sessionIn (st : SessionState) : Session :=
  { Session.cold with state := st, station := some station, tillId := some tillId, nextPoll := some 1000 }

/-- An open basket with these lines. -/
def openBasket (ls : List Line) : Basket := ⟨true, 42, 57, 100, false, false, ls, none, none⟩

/-- Lane 64 with a session and a basket. -/
def lane64 (st : SessionState) (b : Basket) : State :=
  let s := ((shop 1000 7 549).setSession 64 (sessionIn st)).setBasket 64 b
  { s with tsu := { s.tsu with roster := s.tsu.roster.setIfInBounds 63 ⟨tillId, true, .refuse, 0⟩ } }

/-- A busy part with every invariant: a till in a basket, an item that lags, its labels queued, a range with the exchange peer. -/
def busy : State :=
  let s := after (price 499) (lane64 .inBasket (openBasket basketLines))
  let r := s.zfw.ranges.setIfInBounds 31 ⟨ip 172 30 8 5, ones 32, true, .headoffice, true, false⟩
  { s with pending := [.itemBlock 2 (some 7), .hostRead], zfw := { s.zfw with ranges := r }, gat := { s.gat with sessions := [guestD .admitted 1 0 1000] } }

theorem test_witness_StepRunsTheFrontCommand : busy.pending = .itemBlock 2 (some 7) :: [.hostRead] := by rfl

theorem test_witness_CommandsLeaveTheQueueAndADeadPartAlone :
    (∃ t, exec (.itemBlock 2 (some 7)) busy = .next t) ∧
    ({ busy with power := .off } : State).power = .off ∧ Instr.wanReady ≠ .branchClockTick ∧ Instr.wanReady ≠ .mainPowerLoss ∧
    ∀ k m, Instr.wanReady ≠ .powerOn k m := ⟨⟨_, rfl⟩, rfl, by decide, by decide, fun _ _ => by simp⟩

theorem test_witness_StepKeepsEveryQueueWithinItsCapacity :
    busy.reportsBounded ∧ busy.repliesBounded ∧ busy.queuesBounded ∧ ∃ t, step busy = .next t := by
  refine ⟨?_, ?_, ⟨fun p => ?_, fun c => ?_⟩, ⟨_, rfl⟩⟩
  · unfold State.reportsBounded; decide +kernel
  · unfold State.repliesBounded; decide +kernel
  · cases p <;> decide +kernel
  · cases c <;> decide +kernel

theorem test_witness_StepKeepsTheTablesOrdered : (∃ t, step busy = .next t) ∧ busy.itemsOrdered ∧ busy.labelsOrdered ∧ busy.guestsOrdered := by
  refine ⟨⟨_, rfl⟩, ?_, ?_, ?_⟩
  · unfold State.itemsOrdered; decide +kernel
  · unfold State.labelsOrdered; decide +kernel
  · unfold State.guestsOrdered; decide +kernel

theorem test_witness_StepKeepsPreviousWhileLabelsPend :
    busy.itemsSound ∧ (∃ t, step busy = .next t) ∧ (busy.item 7).map (fun r => (r.count, r.previous.isSome)) = some (2, true) := by
  refine ⟨?_, ⟨_, rfl⟩, by decide +kernel⟩
  unfold State.itemsSound ItemRecord.sound
  decide +kernel

theorem test_witness_StepKeepsBasketsAndSessionsSound :
    (∃ t, step busy = .next t) ∧ busy.basketsBounded ∧ busy.sessionsSettled ∧ (busy.session 64).state.isPresent = true := by
  refine ⟨⟨_, rfl⟩, ?_, ?_, by decide +kernel⟩
  · unfold State.basketsBounded; decide +kernel
  · unfold State.sessionsSettled; decide +kernel

/-- A tax rate past the table reads as its default. -/
theorem rate_of_cold (b : Nat) : tget ItemTable.cold.rates b 0 ≤ 9999 := by
  by_cases h : b < 8
  · simp [tget, ItemTable.cold, h]
  · simp [tget, ItemTable.cold, Vector.getElem?_eq_none (Nat.le_of_not_lt h)]

theorem test_witness_StepKeepsFixedCellsFlagsAndSettings :
    (∃ t, step busy = .next t) ∧ busy.cellsFixed ∧ busy.flagsSingle ∧ busy.settingsInRange ∧ (busy.zfw.range 31).peer = true := by
  have peers : ∀ i, i < 32 → ∀ j, j < 32 → (busy.zfw.range i).peer = true → (busy.zfw.range j).peer = true → i = j := by decide +kernel
  have claims : ∀ i, i < 32 → ∀ j, j < 32 → (busy.zfw.range i).claim = true → (busy.zfw.range j).claim = true → i = j := by decide +kernel
  refine ⟨⟨_, rfl⟩, ?_, ⟨fun i j hi hj => peers i hi j hj, fun i j hi hj => claims i hi j hj, by decide +kernel⟩, ?_, by decide +kernel⟩
  · intro x y; cases x <;> cases y <;> decide +kernel
  · have rated : ∀ b, tget busy.itb.rates b 0 ≤ 9999 := rate_of_cold
    have day : busy.uls.day.inRange := by intro c; cases c <;> decide +kernel
    have night : busy.uls.night.inRange := by intro c; cases c <;> decide +kernel
    refine ⟨?_, rated, ?_, ?_, ?_, ?_, ?_, day, night, fun n h => by cases h⟩ <;> decide +kernel

theorem test_witness_StepKeepsTheBaseTemplate : busy.baseStands ∧ ∃ t, step busy = .next t :=
  ⟨⟨by decide +kernel, by decide +kernel⟩, ⟨_, rfl⟩⟩

/-- The largest code, the longest description, the last band. -/
theorem test_witness_ItemPutCreatesARecord :
    let a : ItemPutArgs := ⟨99999999999999, List.replicate 24 65, 7, ⟨9999999, 0, 0, none, ⟨3, 99, 9999999⟩⟩⟩
    busy.canTake = true ∧ codeOk a.code = true ∧ a.desc.length ≤ 24 ∧ a.band ≤ 7 ∧
    checkPrice a.price = .ok ⟨9999999, .each, .noBasis, none, .multibuy 99 9999999⟩ ∧ busy.item a.code = none ∧
    busy.itb.items.length < 32768 ∧ busy.jnl.fits (.price a.code none (some 9999999) .itemPut) = true := by decide +kernel

theorem test_witness_ItemPutRewritesARecord :
    busy.canTake = true ∧ codeOk 7 = true ∧ checkPrice (rawEach 450) = .ok (plain 450) ∧ (busy.item 7).isSome = true ∧
    busy.jnl.fits (.price 7 (oldUnit (busy.item 7)) (some 450) .itemPut) = true := by decide +kernel

/-- With a count above 0, a current and a previous; and with no current, where the new record stands as previous. -/
theorem test_witness_ItemPriceKeepsTheLowestRecord :
    busy.canTake = true ∧ codeOk 7 = true ∧ checkPrice (rawEach 450) = .ok (plain 450) ∧
    (busy.item 7).map (fun r => (r.damaged, r.current, r.previous)) = some (false, some (plain 499), some ⟨plain 549, 7⟩) ∧
    7 ∉ MemFaults.clean.items ∧ busy.jnl.fits (.price 7 (oldUnit (busy.item 7)) (some 450) .itemPrice) = true ∧
    (after (price 450) ((sec 9).putItem { itemAt 7 1 with current := none })).item 7 =
      some { itemAt 8 450 with previous := some ⟨plain 450, 8⟩, count := 2, lagStart := some 9, labels := (itemAt 7 1).labels } ∧
    ((after (price 450) ((sec 9).putItem { itemAt 7 1 with current := none, previous := some ⟨plain 3, 5⟩ })).item 7).map (·.previous) =
      some (some ⟨plain 3, 5⟩) ∧
    ((after (price 450) ((sec 9).putItem (itemAt 7 549))).item 7).map (·.previous) = some (some ⟨plain 549, 7⟩) ∧
    ((after (price 450) ((sec 9).putItem { itemAt 7 549 with labels := [] })).item 7).map (·.previous) = some none := by decide +kernel

theorem test_witness_ItemDeleteUnbindsAndRemoves :
    busy.canTake = true ∧ codeOk 7 = true ∧ (busy.item 7).map (·.labels.map (·.addr)) = some [labelA, labelB] ∧
    (busy.lrc.entry labelA).map (·.item) = some (some 7) ∧ busy.jnl.fits (.price 7 (oldUnit (busy.item 7)) none .itemDelete) = true := by
  decide +kernel

theorem test_witness_BlockUnblockAndTaxSetWriteOneField :
    busy.canTake = true ∧ codeOk 0 = false ∧ codeOk 100000000000000 = false ∧ codeOk 8 = true ∧ busy.item 8 = none ∧ codeOk 7 = true ∧
    (busy.item 7).isSome = true ∧
    tget (after (.taxSet 1 (some ⟨7, 9999⟩)) busy).itb.rates 7 0 = 9999 ∧ tget (after (.taxSet 1 (some ⟨0, 10000⟩)) busy).itb.rates 0 0 = 9999 ∧
    (after (.taxSet 1 (some ⟨8, 0⟩)) busy).itb = busy.itb := by decide +kernel

theorem test_witness_LagAcceptExcludesTheLaggingLabels :
    busy.canTake = true ∧ codeOk 7 = true ∧ (busy.item 7).map (·.count) = some 2 ∧ busy.jnl.fits (.lag 7 2) = true ∧
    (shop 1000 7 549).canTake = true ∧ ((shop 1000 7 549).item 7).map (·.count) = some 0 := by decide +kernel

theorem test_witness_LagIsReportedWhenItFallsDue :
    busy.itemsOrdered ∧ busy.canTake = true ∧ (busy.item 7).map (·.lagStart) = some (some 1000) ∧
    (atSec 2800 busy).power = .running ∧ ((atSec 2800 busy).item 7).map (fun r => (r.lagReported, r.lagStart)) = some (false, some 1000) ∧
    1000 + (atSec 2800 busy).itb.lagLimit ≤ (atSec 2800 busy).now ∧
    (after (.priceParams 1 (some 59)) busy).itb.lagLimit = 60 ∧ (after (.priceParams 1 (some 7201)) busy).itb.lagLimit = 7200 ∧
    (after (.priceParams 1 (some 60)) (atSec 1060 busy)).msp.reports = [⟨1060, .labelLag 7 8 2 1000 [labelA, labelB]⟩] ∧
    (after (.priceParams 1 (some 60)) (atSec 1059 busy)).msp.reports = [] := by
  unfold State.itemsOrdered; decide +kernel

/-- A record of each mode and promotion form, the 99.9 % on a base amount of 1, and a unit price of 0. -/
theorem test_witness_LineAmountFollowsStagesOneAndTwo :
    coffee.promo = .percent 250 ∧ apples.mode = .byWeight ∧ apples.promo = .noPromo ∧ yoghurt.promo = .multibuy 4 300 ∧ yoghurt.mode = .each ∧
    lineAmount ⟨10, .each, .noBasis, none, .fixedOff 3⟩ 2 = 14 ∧ lineAmount ⟨10, .byWeight, .noBasis, none, .fixedOff 3⟩ 2000 = 17 ∧
    baseAmount ⟨1, .each, .noBasis, none, .percent 999⟩ 1 = 1 ∧ lineAmount ⟨0, .each, .noBasis, none, .fixedOff 3⟩ 2 = 0 := by decide

/-- A previous record past the line limit, one that ties, one of another mode and none. -/
theorem test_witness_StageFourAnswersTheLowerAmount :
    (computeLine (plain 9) 2 (some ⟨plain 9999999, 1⟩) 2 0).toOption.map (fun a => (a.amount, a.used)) = some (18, .current) ∧
    9999999 < lineAmount (plain 9999999) 2 ∧
    (computeLine (plain 9) 2 (some ⟨plain 9, 1⟩) 1 0).toOption.map (fun a => (a.amount, a.used)) = some (9, .current) ∧
    (computeLine (plain 9) 2 (some ⟨plain 8, 1⟩) 1 0).toOption.map (fun a => (a.amount, a.used)) = some (8, .previous) ∧
    (computeLine (plain 9) 2 (some ⟨apples, 1⟩) 1 0).toOption.map (fun a => (a.amount, a.labelLag)) = some (9, true) ∧
    (computeLine (plain 9) 2 none 1 9999990).toOption.map (fun a => (a.amount, a.labelLag)) = some (9, false) := by decide

/-- The basket of 2.6, its group's first line 3; a group that buys no set; a band at rate 0; a tax of half a unit, rounded up. -/
theorem test_witness_TaxContentNeverExceedsItsBand :
    ⟨2, 385, 64⟩ ∈ bandTaxes rates basketLines ∧ tget rates 0 0 = 0 ∧ groupDiscounts [lineFrom 3 13 3 9 2 yoghurt] = [] ∧
    bandTaxes rates [lineFrom 1 7 1 1 0 coffee] = [⟨0, 487, 0⟩] ∧ taxContent 1 9999 = 0 ∧ taxContent 3 2000 = 1 := by decide +kernel

/-- Lane 64: a present till that the new entry does not admit, and one that it does. -/
theorem test_witness_RosterSetLosesATillItNoLongerAdmits :
    let s := lane64 .ready .cold
    s.canTake = true ∧ laneOk 64 = true ∧ tillIdOk tillId = true ∧ policyOf 1 = some .openPrice ∧ (s.session 64).state.isPresent = true ∧
    (s.session 64).tillId = some tillId ∧
    ((after (.rosterSet 1 (some ⟨64, tillId, true, 1, 7⟩)) s).session 64).state = .ready ∧
    ((after (.rosterSet 1 (some ⟨64, tillId, false, 1, 7⟩)) s).session 64).state = .lost := by decide +kernel

theorem test_witness_LockoutAndReleaseSettleTheSession :
    let s := lane64 .ready .cold
    let t := lane64 .absent .cold
    s.canTake = true ∧ laneOk 0 = false ∧ laneOk 65 = false ∧ laneOk 64 = true ∧ (s.session 64).lockout = false ∧
    ((after (.tillLockout 1 (some 64)) s).session 64).state = .lockedOut ∧ ((after (.tillLockout 1 (some 64)) s).session 64).lockout = true ∧
    ((run [.tillLockout 1 (some 64), .tillRelease 2 (some 64)] s).session 64).state = .ready ∧
    ((after (.tillLockout 1 (some 64)) t).session 64).state = .absent := by decide +kernel

theorem test_witness_TillParamsExpiresShortenedWindows :
    let s := (sec 1000).setSession 64 { sessionIn .lost with lostAt := 950 }
    s.canTake = true ∧ (s.session 64).state = .lost ∧
    ((after (.tillParams 1 (some ⟨11, 50⟩) .clean) s).session 64).state = .absent ∧
    ((after (.tillParams 1 (some ⟨0, 51⟩) .clean) s).session 64).state = .lost ∧
    (after (.tillParams 1 (some ⟨11, 601⟩) .clean) s).tsu.window = 600 := by decide +kernel

/-- The three commands that abandon a basket, each on lane 64. -/
theorem test_witness_AbandonsJournalAndCloseTheBasket :
    let s := lane64 .ready (openBasket basketLines)
    let due := lane64 .absent { openBasket basketLines with abandonDue := true, dueCause := some .hostClear, retryAt := some 1000 }
    let lost := (lane64 .ready (openBasket basketLines)).setSession 64 { sessionIn .lost with lostAt := 880 }
    laneOk 64 = true ∧ (s.basket 64).isOpen = true ∧ s.tsu.hold = false ∧ 1 + ((s.basket 64).lines.length + 7) / 8 ≤ s.jnl.space ∧ s.canTake = true ∧
    (due.basket 64).isOpen = true ∧ due.power = .running ∧ (due.basket 64).abandonDue = true ∧ due.due (due.basket 64).retryAt = true ∧
    (due.basket 64).dueCause = some .hostClear ∧ 1 + ((due.basket 64).lines.length + 7) / 8 ≤ due.jnl.space ∧
    (lost.basket 64).isOpen = true ∧ (lost.session 64).state = .lost ∧ (lost.session 64).lostAt + lost.tsu.window ≤ lost.elapsed := by decide +kernel

/-- A poll answered, and the third one missed. -/
theorem test_witness_PollTimePollsOrLosesTheTill :
    let s := lane64 .ready .cold
    let t := s.setSession 64 { sessionIn .ready with missed := 2, polled := true }
    s.power = .running ∧ laneOk 64 = true ∧ (s.session 64).state.isPresent = true ∧ (s.session 64).nextPoll = some 1000 ∧ 1000 ≤ s.elapsed ∧
    (s.session 64).station = some station ∧ (t.session 64).nextPoll = some 1000 ∧ (t.session 64).station = some station ∧
    ((after (.pollTime 64) t).session 64).state = .lost ∧ ((after (.pollTime 64) s).session 64).state = .ready := by decide +kernel

theorem test_witness_JoinAdmitsOrRefuses :
    let s := lane64 .ready .cold
    let t := lane64 .absent (openBasket basketLines)
    s.power = .running ∧ s.tsu.serving = true ∧ laneOk 64 = true ∧ (s.session 64).state.isPresent = true ∧ (s.session 64).station ≠ some 6 ∧
    t.power = .running ∧ t.tsu.serving = true ∧ (t.session 64).state.isPresent = false ∧ (t.roster 64).allowed = true ∧
    (t.roster 64).tillId = tillId ∧ (t.roster 64).tillId ≠ [1] := by decide +kernel

theorem test_witness_StatusIsRecordedOrDiscarded :
    let s := lane64 .ready .cold
    let t := lane64 .absent .cold
    s.power = .running ∧ s.tsu.serving = true ∧ laneOk 64 = true ∧ (s.session 64).state.isPresent = true ∧ (s.session 64).station = some station ∧
    (s.session 64).station ≠ some 6 ∧ (t.session 64).state.isPresent = false ∧ (s.session 64).service = false := by decide +kernel

/-- The sequence that follows 4,294,967,295 is 1. -/
theorem test_witness_OpenStartsABasket :
    (lane64 .ready .cold).takesNew station 64 255 = true ∧ ((lane64 .ready .cold).session 64).state = .ready ∧
    ((after (.laneOpen station 64 255) (lane64 .ready { Basket.cold with sequence := 4294967295 })).basket 64).sequence = 1 := by decide +kernel

theorem test_witness_AskAppendsAPricedLine :
    let s := lane64 .inBasket (openBasket basketLines)
    s.takesNew station 64 1 = true ∧ (s.session 64).state ≠ .lockedOut ∧ (s.basket 64).isOpen = true ∧ codeOk 7 = true ∧
    s.item 7 = some (itemAt 7 549) ∧ 7 ∉ MemFaults.clean.items ∧ (s.basket 64).lines.length < 200 ∧
    computeLine (plain 549) 7 none 999 (runningTotal (s.basket 64).lines) =
      .ok ⟨548451, .current, some 7, false, ⟨549, .each, .noPromo⟩⟩ := by decide +kernel

theorem test_witness_VoidMarksOneLine :
    let s := lane64 .inBasket (openBasket basketLines)
    s.takesNew station 64 1 = true ∧ (s.session 64).state ≠ .lockedOut ∧ (s.basket 64).isOpen = true ∧
    ((s.basket 64).lines.find? (fun x => x.number == 4)) = some (lineFrom 4 13 2 9 2 yoghurt) ∧
    runningTotal ((after (.laneVoid station 64 1 4) s).basket 64).lines = 1634 := by decide +kernel

theorem test_witness_CloseAndCancelJournalAndCloseTheBasket :
    let s := lane64 .inBasket (openBasket basketLines)
    s.takesNew station 64 1 = true ∧ (s.session 64).state ≠ .lockedOut ∧ (s.basket 64).isOpen = true ∧ s.tsu.hold = false ∧
    tenderOf 0 = some .cash ∧ tenderOf 2 = some .other ∧ tenderOf 3 = none ∧
    1 + ((s.basket 64).lines.length + (groupDiscounts (s.basket 64).lines).length + 7) / 8 ≤ s.jnl.space ∧
    1 + ((s.basket 64).lines.length + 7) / 8 ≤ s.jnl.space := by decide +kernel

theorem test_witness_RepeatsGetTheKeptReply :
    let s := (lane64 .inBasket (openBasket basketLines)).setSession 64 { sessionIn .inBasket with last := some ⟨5, .refuse 64 (some 5) .badLine⟩ }
    s.power = .running ∧ s.tsu.serving = true ∧ laneOk 64 = true ∧ (s.session 64).state.isPresent = true ∧
    (s.session 64).station = some station ∧ (s.session 64).last = some ⟨5, .refuse 64 (some 5) .badLine⟩ := by decide +kernel

theorem test_witness_ReadingRequestsAnswerWhatStands :
    busy.canTake = true ∧ laneOk 64 = true ∧ isGroup 9 = false ∧ (busy.guest 9).isSome = true := by decide +kernel

/-- The same part with its journal of one PRICE record, and with item 7 found damaged. -/
theorem test_witness_ReadsCheckWhatTheyRead :
    busy.canTake = true ∧ codeOk 7 = true ∧ (busy.item 7).map (·.damaged) = some false ∧ 7 ∈ (⟨[7], []⟩ : MemFaults).items ∧
    ((after (.itemGet 3 (some 7) ⟨[7], []⟩) busy).item 7).map (·.damaged) = some true ∧
    (busy.jnl.records.find? (fun x => x.seq == 1)).map (·.pages) = some 1 ∧
    (after (.journalRead 3 (some ⟨1, some 0⟩) ⟨[], [(1, 0)]⟩) busy).msp.memory.held.map (·.code) = some 503 := by decide +kernel

/-- Template 0 holds content at a cold start; item 8 has three labels and stands beside item 7, whose label A moves to it. -/
def twoItems : State :=
  (shop 1000 7 549).putItem { itemAt 3 100 with code := 8, labels := [⟨⟨1, 0⟩, some 3, false⟩, ⟨⟨1, 1⟩, some 3, false⟩, ⟨⟨1, 2⟩, some 3, false⟩] }

theorem test_witness_LabelAddAndBindJoinTheQueue :
    let s := twoItems
    s.canTake = true ∧ labelA.rail ≤ 1023 ∧ labelA.slot ≤ 23 ∧ s.tps.holds 0 = true ∧ s.lrc.entry ⟨1023, 23⟩ = none ∧
    (s.lrc.entry labelA).map (fun e => (e.addr, e.item, e.template)) = some (labelA, some 7, 0) ∧ codeOk 8 = true ∧
    (s.item 8).map (fun r => (r.labels.length, r.current.isSome)) = some (3, true) ∧ (s.item 7).isSome = true ∧
    ((after (.labelBind 1 (some ⟨⟨1023, 23⟩, 8, some 0⟩)) s).item 8).map (fun r => (r.count, r.previous)) = some (1, some ⟨plain 100, 3⟩) ∧
    ((after (.labelBind 1 (some ⟨labelA, 8, none⟩)) s).item 7).map (·.labels.length) = some 1 := by decide +kernel

theorem test_witness_UnbindRemoveRailsAndParams :
    let s := shop 1000 7 549
    let t := after (.labelUnbind 1 (some labelA)) s
    s.canTake = true ∧ s.lrc.entry ⟨1023, 23⟩ = none ∧ (s.lrc.entry labelA).map (fun e => (e.addr, e.item)) = some (labelA, some 7) ∧
    (s.item 7).isSome = true ∧ t.canTake = true ∧ (t.lrc.entry labelA).map (fun e => (e.addr, e.item)) = some (labelA, none) ∧
    (after (.railSet 1 (some ⟨1023, 1023, 255⟩)) s).msp.replies = [⟨1, .ok (.number 2 1) [], .request⟩] ∧
    (after (.railSet 1 (some ⟨0, 1024, 255⟩)) s).msp.replies = [⟨1, .refused .badField .noDetail, .request⟩] ∧
    (after (.railSet 1 (some ⟨1, 0, 255⟩)) s).msp.replies = [⟨1, .refused .badField .noDetail, .request⟩] ∧
    (after (.railSet 1 (some ⟨0, 0, 256⟩)) s).msp.replies = [⟨1, .refused .badField .noDetail, .request⟩] ∧
    (after (.labelParams 1 (some ⟨16, 3599⟩)) s).lrc.retryLimit = 15 ∧ (after (.labelParams 1 (some ⟨0, 86401⟩)) s).lrc.presence = 86400 := by
  decide +kernel

/-- At the second where rail 412 wakes, with both labels queued. -/
def wake : State := atSec 1012 (after (price 499) (shop 1005 14 549))

theorem test_witness_RadioFrameSendsGrantedLabels :
    wake.power = .running ∧ wake.lrc.frameDue = true ∧ wake.lrc.frame = none ∧
    (wake.lrc.queue.map fun q => addrKey q.addr).Nodup ∧
    (unpolledFrame wake).lrc.frame.map (fun f => f.grants.map fun g => (g.addr, g.update.tag, g.update.figures)) =
      some [(labelA, ⟨some 15, 1, []⟩, some ⟨4, 99, false, none, none⟩), (labelB, ⟨some 15, 1, []⟩, some ⟨4, 99, false, none, none⟩)] ∧
    (unpolledFrame (wake.putItem { itemAt 15 499 with damaged := true })).lrc.frame.map (fun f => f.grants.map fun g =>
      (g.update.tag.version, g.update.figures)) = some [(some 15, none), (some 15, none)] := by decide +kernel

/-- The part with that frame in flight. -/
def flying : State := unpolledFrame wake

theorem test_witness_AcknowledgementConfirmsItsLabel :
    wake.power = .running ∧ wake.lrc.frame = none ∧ flying.power = .running ∧
    (flying.lrc.frame.bind (fun f => f.grants[1]?)).map (·.addr) = some labelB ∧
    (flying.lrc.entry labelB).map (fun e => (e.state, e.lastSend)) = some (.sent, some ⟨⟨some 15, 1, []⟩, 1012⟩) ∧
    (flying.item 7).map (·.labels.map (·.addr)) = some [labelA, labelB] ∧
    (after (.labelAck 1 (some ⟨⟨some 15, 1, []⟩, 2⟩)) flying).msp.reports.length = 1 ∧
    (after (.labelAck 1 (some ⟨⟨some 14, 1, []⟩, 2⟩)) flying).lrc.stale = 1 ∧
    (after (.labelAck 2 (some ⟨⟨some 15, 1, []⟩, 2⟩)) flying).lrc.stale = 1 := by decide +kernel

/-- A frame that polls rail 412 and grants nothing; label A has missed two polls. -/
def polling : State :=
  let s := shop 1012 7 549
  { s with lrc := { s.lrc with
      directory := [{ idleLabel labelA 7 with missed := 2 }, idleLabel labelB 7], frame := some ⟨1012, some 412, [], false, false⟩ } }

theorem test_witness_FrameEndsLeaveNoLabelSent :
    polling.labelsOrdered ∧ flying.power = .running ∧ flying.lrc.frame.isSome = true ∧
    (flying.lrc.entry labelA).map (fun e => (e.state, e.lastSend.isSome)) = some (.sent, true) ∧
    flying.lrc.frame.map (fun f => (f.accepted, decide (f.grants.map fun g => addrKey g.addr).Nodup)) = some (false, true) ∧
    polling.power = .running ∧ polling.lrc.frame = some ⟨1012, some 412, [], false, false⟩ ∧
    (after (.railPollAnswer 2) polling).lrc.directory.map (fun e => (e.state, e.missed)) = [(.missing, 3), (.idle, 0)] := by
  unfold State.labelsOrdered; decide +kernel

/-- Slot 63 open with these elements. -/
def defining (es : List Element) : State := { sec 1000 with tps := { (sec 1000).tps with definition := some ⟨63, es, 940, 1000⟩ } }

theorem test_witness_DefinitionsOpenGrowAndPublish :
    let s := defining []
    s.canTake = true ∧ s.tps.walking 63 = false ∧ (s.tps.definition.map (·.deadline)) = some 1000 ∧ s.elapsed = 1000 ∧ s.power = .running ∧
    elementOf ⟨6, 7, 31, 4, none, some 63⟩ = some ⟨.call 63, 7, 31, 4⟩ ∧
    hasLoop ((defining [⟨.call 63, 0, 0, 1⟩]).tps.contentsWith ⟨63, [⟨.call 63, 0, 0, 1⟩], 940, 1000⟩) = true ∧
    hasLoop ((defining [⟨.call 0, 0, 0, 1⟩]).tps.contentsWith ⟨63, [⟨.call 0, 0, 0, 1⟩], 940, 1000⟩) = false ∧
    hasDeepChain ((defining [⟨.call 0, 0, 0, 1⟩]).tps.contentsWith ⟨63, [⟨.call 0, 0, 0, 1⟩], 940, 1000⟩) = false := by decide +kernel

/-- Slot 63 is open to call slot 60, which calls 61, which calls 0: a chain of three. -/
theorem test_witness_DefinitionsThatCallTooDeep :
    let row := fun n => (⟨.defined, some [⟨.call n, 0, 0, 1⟩], 1, some .permanent⟩ : TemplateSlot)
    let s := defining [⟨.call 60, 0, 0, 1⟩]
    let t := { s with tps := { s.tps with slots := (s.tps.slots.setIfInBounds 60 (row 61)).setIfInBounds 61 (row 0) } }
    hasLoop (t.tps.contentsWith ⟨63, [⟨.call 60, 0, 0, 1⟩], 940, 1000⟩) = false ∧
    hasDeepChain (t.tps.contentsWith ⟨63, [⟨.call 60, 0, 0, 1⟩], 940, 1000⟩) = true ∧ t.canTake = true := by decide +kernel

/-- Slot 63 published, with an overlay, a label and the open definition on it. -/
def published63 : State :=
  let s := shop 1000 7 549
  { s with
    tps := { s.tps with
      slots := s.tps.slots.setIfInBounds 63 ⟨.defined, some baseLayout, 2, some .temporary⟩, definition := some ⟨63, [], 1000, 1060⟩
      overlays := s.tps.overlays.setIfInBounds 3 (some ⟨63, 412, 412, 1⟩), overlayCounter := 4294967295 }
    lrc := { s.lrc with directory := [{ idleLabel labelA 7 with template := 63 }, idleLabel labelB 7] } }

theorem test_witness_DeleteAndPermanence :
    published63.labelsOrdered ∧ published63.canTake = true ∧ published63.tps.holds 63 = true ∧ published63.tps.holds 0 = true ∧
    published63.tps.walking 63 = false ∧ (after (.templateDelete 1 (some 63)) published63).tps.definition = none ∧
    (after (.templateDelete 1 (some 63)) published63).tps.walking 63 = true := by
  unfold State.labelsOrdered; decide +kernel

/-- A deletion refused BUSY: the slot was defined again while its walk is listed. -/
theorem test_witness_DeleteWhileWalking :
    let s := { published63 with tps := { published63.tps with walks := [⟨.publish, 63, 2, none, 0⟩] } }
    s.canTake = true ∧ s.tps.holds 63 = true ∧ s.tps.walking 63 = true := by decide +kernel

theorem test_witness_OverlaysAndWalksNoticeLabels :
    let s := published63
    let w := { s with tps := { s.tps with walks := [⟨.publish, 63, 2, none, 0⟩] } }
    let v := { s with tps := { s.tps with walks := [⟨.publish, 63, 2, some (addrKey labelA), 1⟩] } }
    s.canTake = true ∧ s.tps.holds 63 = true ∧ (s.tps.overlay 0 = none) ∧ (s.tps.overlay 3).isSome = true ∧
    (s.lrc.entry labelA).map (·.state) = some .idle ∧ s.labelsOrdered ∧
    ((after (.overlaySet 1 (some ⟨3, 63, 0, 1023⟩)) s).tps.overlay 3).map (·.stamp) = some 1 ∧
    (after .templateWalkStep w).tps.walks = [⟨.publish, 63, 2, some (addrKey labelA), 1⟩] ∧
    (after .templateWalkStep v).tps.walks = [] ∧ (after .templateWalkStep v).msp.reports.length = 1 := by
  unfold State.labelsOrdered; decide +kernel

theorem test_witness_RoutingTablesAreWrittenEntryByEntry :
    let s := routing
    s.canTake = true ∧ rangeZoneOf 3 = some .payment ∧ maskOk (ones 0) = true ∧ maskOk (ones 32) = true ∧ maskOk 0xFF00FF00#32 = false ∧
    (∀ j, j < 32 → j ≠ 4 → (s.zfw.range j).claim = false) ∧ (s.zfw.range 4).claim = true ∧ (∀ j, j < 32 → j ≠ 2 → (s.zfw.range j).peer = false) ∧
    (s.zfw.range 2).peer = true ∧ s.xce.session.state = .idle ∧ night.xce.session.state ≠ .idle ∧ (night.zfw.range 2).peer = true ∧
    fixedCell .guest .internet = true ∧ fixedCell .till .store = false ∧ policyValueOf 2 = some .paymentOnly ∧
    (s.zfw.rangeZone (ip 10 20 1 10) = .store) ∧ (s.zfw.rangeZone (ip 172 30 8 5) = .headoffice) ∧
    ip 10 99 0 0 &&& ones 16 = ip 10 99 0 0 ∧ ip 10 20 1 10 &&& ones 16 ≠ ip 10 99 0 0 ∧ profileNameOf 1 = some .night ∧
    zoneOf 1 = some .till ∧ zoneOf 5 = some .internet ∧ hintClassOf 2 = some .store ∧
    s.zfw.kinds.toList.head? = some (some ⟨8000, 8099, .payment⟩) ∧ (sec 1).canTake = true ∧ (∀ x ∈ (sec 1).zfw.kinds.toList, x = none) := by
  decide +kernel

theorem test_witness_KindSetWritesOneEntry :
    (sec 1).canTake = true ∧ trafficKindOf 3 = some .control ∧ trafficKindOf 4 = none ∧
    tget (after (.kindSet 1 (some ⟨7, some ⟨0, 65535, 3⟩⟩)) (sec 1)).zfw.kinds 7 none = some ⟨0, 65535, .control⟩ ∧
    tget (after (.kindSet 1 (some ⟨7, some ⟨1, 0, 3⟩⟩)) (sec 1)).zfw.kinds 7 none = none ∧
    (after (.kindSet 1 (some ⟨7, some ⟨1, 0, 3⟩⟩)) (sec 1)).msp.replies = [⟨1, .refused .badRange .noDetail, .request⟩] ∧
    (after (.kindSet 1 (some ⟨7, some ⟨65536, 0, 3⟩⟩)) (sec 1)).msp.replies = [⟨1, .refused .badField .noDetail, .request⟩] ∧
    (after (.kindSet 1 (some ⟨8, none⟩)) (sec 1)).msp.replies = [⟨1, .refused .badField .noDetail, .request⟩] := by decide +kernel

/-- A till FIFO with no room. -/
def tillFull : State := { routing with zfw := { routing.zfw with tillFifo := List.replicate 256 ⟨[], 0, 60, none⟩ } }

theorem test_witness_FramesAreJudgedPlacedAndSent :
    let f := frameOf (ip 10 20 3 4) (ip 10 20 64 31) 6 80
    let g := frameOf (ip 10 20 3 4) (ip 172 30 8 5) 17 53
    let h := frameOf (ip 172 30 1 1) (ip 10 20 3 4) 6 80
    let d := frameOf (ip 10 20 3 4) (ip 192 0 2 66) 6 80
    routing.power = .running ∧ f.toPart = true ∧ (packetOf f).map (fun p => (p.src, p.dst, p.ttl)) = some (ip 10 20 3 4, ip 10 20 64 31, 64) ∧
    packetOf { f with frameType := 1 } = none ∧ f.frameType ≠ laneType ∧
    (routing.zfw.bestMatch (ip 10 20 3 4)).map (·.zone) = some .store ∧ (routing.zfw.bestMatch (ip 172 30 1 1)).map (·.zone) = some .headoffice ∧
    (packetOf h).isSome = true ∧ (packetOf g).map (underPortal .lan · routing.gat) = some false ∧ routing.gat.inBlock (ip 10 20 64 31) = false ∧
    passes .store .till (ip 10 20 3 4) (ip 10 20 64 31) routing.zfw = true ∧ passes .store .blocked (ip 10 20 3 4) (ip 192 0 2 66) routing.zfw = false ∧
    (packetOf d).isSome = true ∧ routing.zfw.tillFifo.length < 256 ∧ 256 ≤ tillFull.zfw.tillFifo.length ∧ tillFull.power = .running ∧
    routing.zfw.classOf .store .headoffice (some 53) = some .store ∧ (routing.uls.queue .store).frames.length < 256 ∧
    tillFull.tsu.outbox = [] ∧ tillFull.zfw.fifo .lan = [] ∧ (tillFull.zfw.fifo .till).length = 256 ∧
    (sendLane station [.seen 64] tillFull).tsu.outbox = [⟨station, [.seen 64]⟩] := by decide +kernel

/-- A guest's frame to the portal and one to the internet, each forwarded. -/
theorem test_witness_GuestsReachOnlyThePortalAndTheInternet :
    let s := { routing with gat := { routing.gat with isOpen := true, sessions := [guestD .admitted 5000 0 1000] } }
    (after (.frameForward .guest (frameOf (ip 10 99 4 17) (ip 10 20 1 10) 6 80) .clean) s).zfw.lanFifo.length = 1 ∧
    (after (.frameForward .guest (frameOf (ip 10 99 4 17) (ip 93 184 216 34) 6 80) .clean) s).uls.guest.frames.length = 1 := by decide +kernel

theorem test_witness_GuestSessionsFollowTheirRequestsAndTimes :
    let s := lounge 4600 (guestD .admitted 5000 0 3700)
    s.canTake = true ∧ s.power = .running ∧ isGroup 9 = false ∧ s.guest 10 = none ∧ s.gat.sessions.length < 512 ∧ s.guestsOrdered ∧
    (s.guest 9).map (fun g => (g.state, g.lastFrame + s.gat.idleLimit, g.expiresAt)) = some (.admitted, 4600, some 4600) ∧
    ((lounge 4600 (guestD .barred 0 0 0)).guest 9).map (·.state) = some .barred ∧
    ((after (.guestAdmit 1 (some ⟨9, 86401, 0⟩)) (lounge 4600 (guestD .pending 0 0 0))).guest 9).map (fun g => (g.state, g.expiresAt)) =
      some (.throttled, some 91000) ∧
    ((after (.guestAdmit 1 (some ⟨9, 59, 4294967295⟩)) (lounge 4600 (guestD .expired 0 0 0))).guest 9).map (fun g => (g.state, g.expiresAt)) =
      some (.admitted, some 4660) ∧
    ((after (.guestCooldownEnd 9) (lounge 4900 (guestD .expired 0 0 0))).guest 9).map (·.cooled) = some true ∧
    (after (.guestService 1 (some ⟨0, some 59⟩)) s).gat.idleLimit = 60 ∧ (after (.guestService 1 (some ⟨1, some 3601⟩)) s).gat.isOpen = false := by
  unfold State.guestsOrdered; decide +kernel

/-- Each of the five steps: PAY waits; the holder has allowance; another class waits; only the holder waits; none waits. -/
theorem test_witness_WanReadySendsByTheArbiter :
    let u := uplinkStart.uls
    uplinkStart.power = .running ∧ u.pay.frames = [] ∧ 0 < u.allowance ∧ (u.queue u.holder.toClass).frames = frames [1514, 1514] ∧
    (enqueueClass .pay ⟨.packet [], 300⟩ uplinkStart).uls.pay.frames = frames [300] ∧
    ({ u with allowance := 0 } : Uplink).holder.round.find? (fun c => decide ((u.queue c.toClass).frames ≠ [])) = some .exch ∧
    (sec 1).power = .running ∧ (∀ c ∈ [UplinkClass.pay, .ctrl, .store, .exch, .guest], ((sec 1).uls.queue c).frames = []) ∧
    (enqueueClass .guest ⟨.packet [], 9⟩ (sec 1)).uls.holder = .guest ∧ (enqueueClass .guest ⟨.packet [], 9⟩ (sec 1)).uls.allowance = 0 := by
  decide +kernel

theorem test_witness_PayDropsAreReportedByTheInterval :
    let s := { sec 1000 with uls := { (sec 1000).uls with pay := ⟨frames (List.replicate 64 300), 0, 0, 0⟩ } }
    let t := { s with uls := { s.uls with payDrop := some ⟨1000, 2⟩ } }
    let v := { s with uls := { s.uls with payDrop := some ⟨1000, 0⟩ } }
    s.power = .running ∧ s.uls.pay.frames.length = 64 ∧ s.uls.payDrop = none ∧ t.uls.payDrop = some ⟨1000, 2⟩ ∧ t.elapsed = 1000 ∧
    v.uls.payDrop = some ⟨1000, 0⟩ ∧ (after .payDropIntervalEnd v).uls.payDrop = none ∧
    (after .payDropIntervalEnd t).uls.payDrop = some ⟨1060, 0⟩ := by decide +kernel

/-- The session 12 of 10.7 in a given state, with its exchange under way. -/
def nightIn (st : ExchangeState) : State := night.onSession fun x => { x with state := st }

theorem test_witness_ExchangeSessionsOpenAndAbort :
    let s := { night with xce := { night.xce with session := .idle, counter := 65535 } }
    s.canTake = true ∧ s.xce.session.state = .idle ∧ s.xce.blockSize = some 4 ∧ s.xce.cutover.state = .none ∧
    s.zfw.exchangePeer = some (ip 172 30 8 5) ∧ (sec 1).zfw.exchangePeer = none ∧ s.uls.exch.frames.length < 128 ∧
    (after (.exchangeStart 1 (some (List.replicate 16 65))) s).xce.counter = 1 ∧
    (nightIn .verify).canTake = true ∧ (nightIn .verify).xce.session.state = .verify ∧ (nightIn .staging).xce.session.state = .staging ∧
    (after (.exchangeAbort 1 true) (nightIn .upload)).xce.session.state = .idle ∧
    (after (.peerAbort 12 0) (nightIn .staging)).xce.session.state = .aborting := by decide +kernel

/-- A download with its header recorded, and two of the three changes of the batch. -/
def downloading : State :=
  { nightIn .download with xce := { (nightIn .download).xce with
      staging := [⟨2, 1, none⟩, ⟨2, 2, none⟩]
      session := { (nightIn .download).xce.session with header := some ⟨771, 58, 3, 64000⟩, backDue := some 1000, partDue := some 1000 } } }

/-- Three DELETEs, of codes 1, 2 and 3: each is the words 0200, 0, 0, 0 and 0n00, and they sum to 3,072. -/
theorem test_witness_DatagramsMoveTheSession :
    night.power = .running ∧ night.xce.session.state = .opening ∧ night.xce.blockSize = some 4 ∧ night.jnl.unuploaded = 10 ∧
    (after (.accept 12 .clean) night).xce.session.highestSent = 3 ∧ (nightIn .download).xce.session.header = none ∧
    (nightIn .download).itb.epoch + 1 = 58 ∧ downloading.xce.session.header = some ⟨771, 58, 3, 64000⟩ ∧
    downloading.xce.staging.length + 1 = 3 ∧ batchSum [⟨2, 1, none⟩, ⟨2, 2, none⟩, ⟨2, 3, none⟩] = 3072 ∧
    (after (.bpart 12 1 [⟨2, 3, none⟩] true) { downloading with xce := { downloading.xce with session := { downloading.xce.session with
      header := some ⟨771, 58, 3, 62464⟩ } } }).xce.session.state = .staging ∧
    (after (.bpart 12 1 [⟨2, 3, none⟩] true) downloading).xce.session.state = .idle ∧
    downloading.xce.cutover.state = .none ∧ downloading.xce.walk = none := by decide +kernel

/-- 10.7: JACK 1 and JACK 2 of the three blocks of four pages: the mark past A, then held at C's end by D, which straddles the extent. -/
theorem test_witness_JacksMoveTheMark :
    let s := after (.accept 12 .clean) night
    s.power = .running ∧ s.xce.session.state = .upload ∧ (s.xce.session.highestSent, s.xce.session.highestAcked, s.xce.session.laid) = (3, 0, 3) ∧
    (after (.jack 12 1 .clean) s).jnl.mark = ⟨9002, 5002⟩ ∧ (after (.jack 12 2 .clean) s).jnl.mark = ⟨9006, 5004⟩ ∧
    (after (.jack 12 4 .clean) s).xce.session.stray = 1 ∧ s.uls.exch.frames.length = 3 := by decide +kernel

theorem test_witness_ExchangeTimersRetryThenFail :
    let s := { night with xce := { night.xce with session := { night.xce.session with helloDue := some 1000, attempts := 2 } } }
    let t := (nightIn .upload).onSession fun x => { x with uploadDue := some 1000, resends := 5 }
    s.power = .running ∧ s.elapsed = 1000 ∧ s.xce.session.state = .opening ∧ s.xce.session.helloDue = some 1000 ∧ s.xce.session.attempts < 3 ∧
    (after .helloTimeout (s.onSession fun x => { x with attempts := 3 })).xce.session.state = .idle ∧
    t.xce.session.state = .upload ∧ t.xce.session.uploadDue = some 1000 ∧ t.xce.session.resends = 5 ∧
    (after (.uploadIntervalExpiry .clean) t).xce.session.state = .idle ∧
    (after (.uploadIntervalExpiry .clean) (t.onSession fun x => { x with resends := 4 })).xce.session.resends = 5 ∧
    (after .helloTimeout s).uls.exch.frames.length = 1 ∧
    (after .helloTimeout (s.onSession fun x => { x with attempts := 3 })).msp.reports.length = 2 ∧
    downloading.xce.session.state = .download ∧ downloading.xce.session.backDue = some 1000 ∧ downloading.xce.session.partDue = some 1000 ∧
    downloading.xce.session.peer.isSome = true ∧ downloading.uls.exch.frames.length < 128 := by decide +kernel

/-- The three blocks of 10.7 sent and one acknowledged: the second and third are entered again. -/
theorem test_witness_BlocksAreSentAgain :
    let s := (run [.accept 12 .clean, .jack 12 1 .clean] night).onSession fun x => { x with uploadDue := some 1000 }
    s.xce.session.state = .upload ∧ s.elapsed = 1000 ∧ s.xce.session.resends = 0 ∧ s.xce.session.peer.isSome = true ∧
    s.jnl.limit = some ⟨9010, 5005⟩ ∧ (s.xce.session.highestAcked, s.xce.session.highestSent) = (1, 3) ∧
    pagesBetween s.jnl.mark ⟨9010, 5005⟩ = 8 ∧ (s.xce.session.origin, s.xce.session.blockSize) = (9000, 4) ∧
    ((after (.uploadIntervalExpiry .clean) s).uls.exch.frames.drop 3).map (fun f => match f.payload with
      | .datagram _ _ (.jblock n k first count _) => (n, k, first, count)
      | _ => (0, 0, 0, 0)) = [(12, 2, 5002, 4), (12, 3, 5004, 2)] := by decide +kernel

/-- A pending record of batch 771 for epoch 58. -/
def pendingOf (k : PendingKind) : Pending := ⟨58, 771, k⟩

/-- Item 7 pending a price beside item 8 and item 9, batch 772 being staged. -/
def walking (p : Option Pending) (w : Option Walk) : State :=
  let s := ((shop 1000 7 549).putItem { itemAt 7 549 with pending := p }).putItem { itemAt 1 100 with code := 9, labels := [] }
  { s with
    itb := { s.itb with epoch := 57 }
    xce := { s.xce with
      walk := w, stagingBatch := some 772, staging := [⟨1, 7, some ⟨[], 7, rawEach 1⟩⟩, ⟨2, 9, none⟩]
      session := { s.xce.session with state := .staging, header := some ⟨772, 58, 2, 0⟩ } } }

theorem test_witness_WalksVisitOneRecord :
    let s := walking (some (pendingOf (.price (plain 1) [] 0))) (some (.pass1 (some 6)))
    let v := walking none (some (.pass2 0))
    let a := walking (some (pendingOf .delete)) none
    s.power = .running ∧ s.itemsOrdered ∧ s.itb.items.map (·.code) = [7, 9] ∧ 7 ∉ MemFaults.clean.items ∧ s.xce.stagingBatch = some 772 ∧
    ((after (.stagingPass1Step .clean) s).item 7).map (·.pending) = some none ∧
    ((after (.abortWalkStep .clean) (s.setWalk (some (.abort none)))).item 7).map (·.pending.isSome) = some true ∧
    v.xce.staging[0]? = some ⟨1, 7, some ⟨[], 7, rawEach 1⟩⟩ ∧ 0 + 1 < v.xce.staging.length ∧ checkPrice (rawEach 1) = .ok (plain 1) ∧
    ((after (.stagingPass2Step .clean) v).item 7).map (·.pending) = some (some ⟨58, 772, .price (plain 1) [] 7⟩) ∧
    (after (.applyWalkStep .clean) (a.onCutover fun c => { c with state := .apply })).item 7 = none ∧
    ((after (.applyWalkStep .clean) (s.setWalk none |>.onCutover fun c => { c with state := .apply, walkPos := some 6 })).item 7).map (·.version) =
      some 8 := by
  unfold State.itemsOrdered; decide +kernel

/-- Lane 64 with a basket, and the cutover in a state with a time of 1,000 and a drain due at 1,000. -/
def cutoverIn (st : CutoverState) : State :=
  (lane64 .inBasket (openBasket basketLines)).onCutover fun c => { c with state := st, time := some 1000, drainDue := some 1000 }

theorem test_witness_CutoverSchedulesDrainsAndApplies :
    let s := cutoverIn .none
    let full := { s with itb := { s.itb with epoch := 4294967295 } }
    let d := { cutoverIn .drain with itb := { s.itb with pendingBatch := some 771 } }
    s.canTake = true ∧ (cutoverIn .finish).xce.cutover.state = .finish ∧ s.itb.epoch < 4294967295 ∧ full.itb.epoch = 4294967295 ∧
    0 < s.tsu.openCount ∧ s.now < 1001 ∧ (cutoverIn .scheduled).xce.cutover.time = some 1000 ∧ (cutoverIn .scheduled).now = 1000 ∧
    (after (.cutoverNow 1 (some (some 29))) s).xce.cutover.drainLimit = 30 ∧
    (after (.cutoverAt 1 (some ⟨1001, some 1801⟩)) s).xce.cutover.drainLimit = 1800 ∧
    (after .cutoverScheduleDue (cutoverIn .scheduled)).xce.cutover.state = .drain ∧
    d.xce.cutover.state = .drain ∧ d.xce.cutover.drainEnd = none ∧ d.xce.cutover.drainDue = some 1000 ∧ d.itb.pendingBatch.isSome = true ∧
    d.xce.walk = none ∧ (after .drainLimitExpiry d).xce.cutover.state = .apply := by decide +kernel

theorem test_witness_FinishAdvancesTheEpochOnce :
    let s := (cutoverIn .apply).onCutover fun c => { c with walkPos := some 7 }
    let t := s.onCutover fun c => { c with epochAdvanced := true }
    s.power = .running ∧ s.xce.cutover.state = .apply ∧ s.xce.walk = none ∧ s.tsu.serving = true ∧ s.itb.items.map (·.code) = [7] ∧
    s.xce.session.state = .idle ∧ t.xce.cutover.epochAdvanced = true ∧ (after (.applyWalkStep .clean) s).itb.epoch = 2 ∧
    (after (.applyWalkStep .clean) t).itb.epoch = 1 := by decide +kernel

/-- Each domain holds a first fault or none; the sequences meet and differ. -/
theorem test_witness_FaultReadAndClear :
    let s := (sec 1000).logFault .memory 502 (.item 7)
    s.canTake = true ∧ domainOf 5 = none ∧ domainOf 4 = some .memory ∧ (s.msp.faultRecord .memory).seq = 1 ∧
    (s.msp.faultRecord .memory).held ≠ none ∧ ((sec 1000).msp.faultRecord .memory).held = none ∧
    (after (.faultClear 1 (some ⟨4, 1⟩)) s).msp.memory.held = none ∧ (after (.faultClear 1 (some ⟨4, 2⟩)) s).msp.memory.held ≠ none := by
  decide +kernel

/-- Replies of each place, a report, nothing; seven and eight immediate refusals; eight unreplied requests. -/
theorem test_witness_PortReadsRefusesAndResets :
    let s := sec 1000
    let asked := run ((List.range 8).map fun n => .journalStatus (n + 1) true) s
    let refused := run (List.replicate 7 (.unknownKind 1 58)) s
    let reset := after (.reset 1 (some 0)) s
    s.power = .running ∧ s.msp.replies = [] ∧ s.msp.reports = [] ∧ State.reset.msp.replies = [] ∧ State.reset.msp.reports.length = 1 ∧
    asked.msp.unreplied = 8 ∧ asked.msp.immediates = 0 ∧ (asked.msp.replies.map (·.place)).head? = some .request ∧
    refused.msp.immediates = 7 ∧ (after (.unknownKind 1 58) refused).msp.immediates = 8 ∧
    (run (List.replicate 2 (.unknownKind 1 58)) refused).msp.frameErrors = 1 ∧
    (reset.msp.replies.map (·.place)) = [.resetRequest] ∧ reset.msp.resetTaken = some .cold ∧ resetKindOf 1 = some .warm ∧ resetKindOf 2 = none ∧
    (after .hostRead reset).power = .resetting .cold ∧ reset.msp.unreplied < 7 ∧ (after (.identify 2 true) reset).msp.replies.length = 2 ∧
    (after (.reset 2 (some 1)) reset).msp.resetTaken = some .cold ∧ (run [.hostRead, .identify 2 true] reset).msp.replies = [] ∧ (run [.frameError .sync, .frameError .check] s).msp.reports.length = 1 := by decide +kernel

/-- A clock with a second to go and one at its end. -/
theorem test_witness_ClockTicksAndJumps :
    (sec 4294967294).power = .running ∧ (sec 4294967294).now < 4294967295 ∧ (after .branchClockTick (sec 4294967294)).now = 4294967295 ∧
    (after .branchClockTick (sec 4294967295)).now = 4294967295 ∧ (after .branchClockTick (sec 4294967295)).elapsed = 4294967296 ∧
    busy.canTake = true ∧ busy.guestsOrdered ∧ busy.itemsOrdered ∧
    (after (.clockSet 1 (some 1000)) { busy with lrc := { busy.lrc with frameDue := false } }).lrc.frameDue = true ∧
    ((after (.clockSet 1 (some 4600)) busy).guest 9).map (·.state) = some .expired := by
  unfold State.guestsOrdered State.itemsOrdered; decide +kernel

/-- Every start: without power, in a reset of each kind, with each thing the memory gives back, and with no check word written. -/
theorem test_witness_StartsAndPowerLoss :
    let off := { busy with power := .off }
    let cold := { busy with power := .resetting .cold }
    let warm := { cutoverIn .apply with power := .resetting .warm }
    let bare := { off with msp := { off.msp with checkWritten := false } }
    off.power = .off ∧ off.xce.cutover.state = .none ∧ off.msp.checkWritten = true ∧ cold.power = .resetting .cold ∧
    warm.power = .resetting .warm ∧ warm.xce.cutover.state = .apply ∧ warm.msp.checkWritten = true ∧ bare.power = .off ∧
    (after (.powerOn .kept .clean) off).itb.items.length = 1 ∧ (after (.powerOn (.damaged .labels) .clean) off).itb.items = [] ∧
    (after (.powerOn .kept .clean) bare).itb.items = [] ∧ (after (.powerOn .lost .clean) off).itb.items = [] ∧
    (after (.resetRequest .kept .clean) cold).itb.items = [] ∧ (after (.resetRequest .kept .clean) warm).itb.items.length = 1 ∧
    (after (.resetRequest (.damaged .journal) .clean) warm).msp.reports.map (·.body) =
      [.started .cold .resetWarm .failed 0 false, .fault .memory 501 1 0 (.retainedPart .journal)] ∧
    (after .mainPowerLoss busy).power = .off := by decide +kernel

end Sys2Proof.Tests
end

section
/-! The line computation (02): one equation per form of stages 1 and 2, what stage 4 chooses, and what an accepted line is. -/

namespace Sys2Proof.Machine

/-! ### Stage 1 (R27) -/

theorem baseAmount_each {r : PriceRecord} (h : r.mode = .each) (q : Nat) : baseAmount r q = r.unit * q := by
  simp only [baseAmount, h]

theorem baseAmount_byWeight {r : PriceRecord} (h : r.mode = .byWeight) (q : Nat) :
    baseAmount r q = roundDiv (r.unit * q) 1000 := by
  simp only [baseAmount, h]

@[simp] theorem roundDiv_zero_left {y : Nat} (hy : 0 < y) : roundDiv 0 y = 0 := by
  simp [roundDiv, Nat.ne_of_gt hy]

theorem baseAmount_of_unit_zero {r : PriceRecord} (h : r.unit = 0) (q : Nat) : baseAmount r q = 0 := by
  cases hm : r.mode with
  | each => simp [baseAmount_each hm, h]
  | byWeight => simp [baseAmount_byWeight hm, h]

/-! ### Stage 2 (R28) -/

theorem lineAmount_le_baseAmount (r : PriceRecord) (q : Nat) : lineAmount r q ≤ baseAmount r q := Nat.sub_le _ _

theorem lineAmount_noPromo {r : PriceRecord} (h : r.promo = .noPromo) (q : Nat) : lineAmount r q = baseAmount r q := by
  simp [lineAmount, lineDiscount, h]

theorem lineAmount_percent {r : PriceRecord} {t : Nat} (h : r.promo = .percent t) (q : Nat) :
    lineAmount r q = baseAmount r q - roundDiv (baseAmount r q * t) 1000 := by
  simp only [lineAmount, lineDiscount, h]

theorem lineAmount_fixedOff_each {r : PriceRecord} {f : Nat} (h : r.promo = .fixedOff f) (hm : r.mode = .each) (q : Nat) :
    lineAmount r q = baseAmount r q - min (baseAmount r q) (f * q) := by
  simp only [lineAmount, lineDiscount, h, hm]

theorem lineAmount_fixedOff_byWeight {r : PriceRecord} {f : Nat} (h : r.promo = .fixedOff f) (hm : r.mode = .byWeight)
    (q : Nat) : lineAmount r q = baseAmount r q - min (baseAmount r q) f := by
  simp only [lineAmount, lineDiscount, h, hm]

/-- Stage 2 grants no multi-buy: stage 5 does, at close (R34). -/
theorem lineAmount_multibuy {r : PriceRecord} {n p : Nat} (h : r.promo = .multibuy n p) (q : Nat) :
    lineAmount r q = baseAmount r q := by
  simp [lineAmount, lineDiscount, h]

/-- The rounding of PERCENT is of the discount, so 99.9 % off a base amount of 1 leaves nothing (R28). -/
theorem lineAmount_percent_999_of_base_one {r : PriceRecord} {q : Nat} (h : r.promo = .percent 999)
    (hb : baseAmount r q = 1) : lineAmount r q = 0 := by
  rw [lineAmount_percent h, hb]
  decide

theorem lineAmount_of_unit_zero {r : PriceRecord} (h : r.unit = 0) (q : Nat) : lineAmount r q = 0 := by
  have hle := lineAmount_le_baseAmount r q
  rw [baseAmount_of_unit_zero h] at hle
  exact Nat.le_zero.mp hle

/-! ### Stage 4 (R30) -/

variable {current : PriceRecord} {version q running : Nat} {previous : Option Previous} {p : Previous} {a x : LineAnswer}

theorem chooseLine_none : chooseLine current version none q =
    ⟨lineAmount current q, .current, some version, false, current.terms⟩ := rfl

theorem chooseLine_previous (hm : p.record.mode = current.mode) (hmax : lineAmount p.record q ≤ maxAmount)
    (hlt : lineAmount p.record q < lineAmount current q) : chooseLine current version (some p) q =
      ⟨lineAmount p.record q, .previous, some p.version, true, p.record.terms⟩ :=
  if_pos ⟨hm, hmax, hlt⟩

/-- Current is answered where previous is of another mode, past the limit or not strictly lower. -/
theorem chooseLine_current (h : p.record.mode = current.mode → lineAmount p.record q ≤ maxAmount →
      lineAmount current q ≤ lineAmount p.record q) : chooseLine current version (some p) q =
      ⟨lineAmount current q, .current, some version, true, current.terms⟩ :=
  if_neg fun ⟨hm, hmax, hlt⟩ => Nat.not_le.mpr hlt (h hm hmax)

theorem chooseLine_labelLag : (chooseLine current version previous q).labelLag = previous.isSome := by
  cases previous with
  | none => rfl
  | some p => simp only [chooseLine]; split <;> rfl

/-- Between two records of one mode within the limit the lesser amount is answered, a tie from current. -/
theorem chooseLine_of_sameMode (hm : p.record.mode = current.mode) (hmax : lineAmount p.record q ≤ maxAmount) :
    (chooseLine current version (some p) q).amount = min (lineAmount current q) (lineAmount p.record q) ∧
    (chooseLine current version (some p) q).used =
      (if lineAmount p.record q < lineAmount current q then .previous else .current) := by
  rcases Nat.lt_or_ge (lineAmount p.record q) (lineAmount current q) with hlt | hge
  · rw [chooseLine_previous hm hmax hlt, if_pos hlt]
    exact ⟨(Nat.min_eq_right hlt.le).symm, rfl⟩
  · rw [chooseLine_current fun _ _ => hge, if_neg hge.not_gt]
    exact ⟨(Nat.min_eq_left hge).symm, rfl⟩

/-- A previous past the limit is left out of the choice, and current, being within it, is lower still. -/
theorem chooseLine_le_previous (hcur : lineAmount current q ≤ maxAmount) (hm : p.record.mode = current.mode) :
    (chooseLine current version (some p) q).amount ≤ lineAmount p.record q := by
  rcases Nat.lt_or_ge maxAmount (lineAmount p.record q) with hover | hmax
  · rw [chooseLine_current fun _ hmax => absurd hmax hover.not_ge]
    exact hcur.trans hover.le
  · rw [(chooseLine_of_sameMode hm hmax).1]
    exact Nat.min_le_right _ _

/-! ### The accepted line (R33) -/

theorem withinBasket_eq_ok_iff : withinBasket running x = .ok a ↔ running + x.amount ≤ maxAmount ∧ x = a := by
  by_cases hfits : running + x.amount ≤ maxAmount <;> simp [withinBasket, hfits]

theorem computeLine_eq_ok_iff : computeLine current version previous q running = .ok a ↔
    quantityOk current.mode q = true ∧ lineAmount current q ≤ maxAmount ∧
      running + (chooseLine current version previous q).amount ≤ maxAmount ∧ chooseLine current version previous q = a := by
  by_cases hq : quantityOk current.mode q = true
  · by_cases hcur : lineAmount current q ≤ maxAmount
    · simp [computeLine, hq, hcur, withinBasket_eq_ok_iff]
    · simp [computeLine, hq, hcur]
  · simp [computeLine, hq]

end Sys2Proof.Machine

/-! ### The obligations of 02 -/

namespace Sys2Proof.Proofs

open Sys2Proof.Machine

/-- Settles O18: the equations of stages 1 and 2, form by form. -/
theorem lineAmountFollowsStagesOneAndTwo : Obligations.LineAmountFollowsStagesOneAndTwo := fun _ q =>
  ⟨fun hm => baseAmount_each hm q,
   fun hm => baseAmount_byWeight hm q,
   fun h => lineAmount_noPromo h q,
   fun _ h => lineAmount_percent h q,
   fun _ h hm => lineAmount_fixedOff_each h hm q,
   fun _ h hm => lineAmount_fixedOff_byWeight h hm q,
   fun _ _ h _ => lineAmount_multibuy h q,
   fun h hb => lineAmount_percent_999_of_base_one h hb,
   fun h => ⟨baseAmount_of_unit_zero h q, lineAmount_of_unit_zero h q⟩⟩

/-- Settles O19: an accepted line is what stage 4 chooses, with current within the line limit. -/
theorem stageFourAnswersTheLowerAmount : Obligations.StageFourAnswersTheLowerAmount := by
  intro current version previous q running a hok
  obtain ⟨-, hcur, -, rfl⟩ := computeLine_eq_ok_iff.mp hok
  refine ⟨?absent, ?lag, ?overLimit, ?sameMode, ?otherMode, ?bound⟩
  case absent =>
    rintro rfl
    rw [chooseLine_none]
    exact ⟨rfl, rfl, rfl⟩
  case lag =>
    rintro p rfl
    exact chooseLine_labelLag
  case overLimit =>
    rintro p rfl - hover
    rw [chooseLine_current fun _ hmax => absurd hmax (Nat.not_le.mpr hover)]
    exact ⟨rfl, rfl⟩
  case sameMode =>
    rintro p rfl hm hmax
    exact chooseLine_of_sameMode hm hmax
  case otherMode =>
    rintro p rfl hm
    rw [chooseLine_current fun heq => absurd heq hm]
    exact ⟨rfl, rfl⟩
  case bound =>
    rintro p rfl hm
    exact chooseLine_le_previous hcur hm

end Sys2Proof.Proofs
end

section
/-! The arbiter (09): what a class queue holds after a write, what sending a head does, and one equation per step of R153. -/

namespace Sys2Proof.Machine

/-! ### Class queues (R147) -/

theorem queue_setQueue (u : Uplink) (c x : UplinkClass) (q : ClassQueue) :
    (u.setQueue c q).queue x = if x = c then q else u.queue x := by
  cases c <;> cases x <;> rfl

/-- The turn is kept beside the queues. -/
@[simp] theorem queue_withTurn (u : Uplink) (h : SharedClass) (a : Nat) (c : UplinkClass) :
    ({ u with holder := h, allowance := a } : Uplink).queue c = u.queue c := by
  cases c <;> rfl

/-! ### The next waiting class (R152) -/

/-- The round leaves out the holder and nothing else. -/
theorem mem_round_iff (h c : SharedClass) : c ∈ h.round ↔ c ≠ h := by
  cases h <;> cases c <;> decide

theorem nextWaiting_eq_find (u : Uplink) :
    u.nextWaiting = u.holder.round.find? fun c => decide ((u.queue c.toClass).frames ≠ []) := by
  have hwaits (c : SharedClass) : (!(u.queue c.toClass).frames.isEmpty) = decide ((u.queue c.toClass).frames ≠ []) := by
    rw [Bool.eq_iff_iff]
    simp
  simp only [Uplink.nextWaiting, hwaits]

theorem nextWaiting_eq_none_iff (u : Uplink) :
    u.nextWaiting = none ↔ ∀ c : SharedClass, (u.queue c.toClass).frames ≠ [] → c = u.holder := by
  simp only [nextWaiting_eq_find, List.find?_eq_none, mem_round_iff, decide_eq_true_eq]
  exact forall_congr' fun c => not_imp_not

/-! ### The head of a queue sent (R153, R154) -/

variable {s : State} {c : UplinkClass} {holder : SharedClass} {budget : Nat → Nat} {f : UplinkFrame} {rest : List UplinkFrame}

theorem sendHead_nil (h : (s.uls.queue c).frames = []) : sendHead c holder budget s = s := by
  simp only [sendHead, h]

theorem sendHead_cons (h : (s.uls.queue c).frames = f :: rest) : sendHead c holder budget s =
    { s with
      uls := { s.uls.setQueue c ((s.uls.queue c).sent f rest) with holder := holder, allowance := budget f.length }
      out := { s.out with wan := some f } } := by
  simp only [sendHead, h]

theorem sendHead_frame (c : UplinkClass) (holder : SharedClass) (budget : Nat → Nat) (s : State) :
    sendHead c holder budget s =
      { s with uls := (sendHead c holder budget s).uls, out := { s.out with wan := (sendHead c holder budget s).out.wan } } := by
  cases h : (s.uls.queue c).frames with
  | nil => rw [sendHead_nil h]
  | cons f rest => rw [sendHead_cons h]

theorem sendHead_sends (h : (s.uls.queue c).frames = f :: rest) :
    (sendHead c holder budget s).out.wan = some f ∧ ((sendHead c holder budget s).uls.queue c).frames = rest ∧
    (sendHead c holder budget s).uls.holder = holder ∧ (sendHead c holder budget s).uls.allowance = budget f.length ∧
    ∀ x, x ≠ c → (sendHead c holder budget s).uls.queue x = s.uls.queue x := by
  rw [sendHead_cons h]
  refine ⟨rfl, ?left, rfl, rfl, fun x hx => ?others⟩
  case left => rw [queue_withTurn, queue_setQueue, if_pos rfl, ClassQueue.sent]
  case others => rw [queue_withTurn, queue_setQueue, if_neg hx]

/-! ### The steps of R153 -/

/-- Step 1: PAY is not made to wait its turn, and costs no class its allowance. -/
theorem arbitrate_pay (h : s.uls.pay.frames ≠ []) :
    arbitrate s = sendHead .pay s.uls.holder (fun _ => s.uls.allowance) s := by
  simp [arbitrate, h]

/-- Step 2: the holder goes on with what it has left. -/
theorem arbitrate_goesOn (hpay : s.uls.pay.frames = []) (hleft : 0 < s.uls.allowance)
    (hwaits : (s.uls.queue s.uls.holder.toClass).frames ≠ []) :
    arbitrate s = sendHead s.uls.holder.toClass s.uls.holder (fun n => s.uls.allowance - n) s := by
  simp [arbitrate, hpay, hleft, hwaits]

/-- Step 3: the turn passes to the next waiting class, reloaded. -/
theorem arbitrate_passesOn {c : SharedClass} (hpay : s.uls.pay.frames = [])
    (hstops : ¬(0 < s.uls.allowance ∧ (s.uls.queue s.uls.holder.toClass).frames ≠ [])) (hnext : s.uls.nextWaiting = some c) :
    arbitrate s = sendHead c.toClass c (fun n => (s.uls.profile s.uls.inForce).allowance c - n) s := by
  simp [arbitrate, hpay, hstops, hnext]

/-- Step 4: with no other class waiting the holder's turn is renewed. -/
theorem arbitrate_renews (hpay : s.uls.pay.frames = [])
    (hstops : ¬(0 < s.uls.allowance ∧ (s.uls.queue s.uls.holder.toClass).frames ≠ [])) (hnext : s.uls.nextWaiting = none) :
    arbitrate s = sendHead s.uls.holder.toClass s.uls.holder
      (fun n => (s.uls.profile s.uls.inForce).allowance s.uls.holder - n) s := by
  simp [arbitrate, hpay, hstops, hnext]

/-- Step 5: an empty uplink keeps its holder and the allowance left. -/
theorem arbitrate_idle (hpay : s.uls.pay.frames = []) (hnone : ∀ c : SharedClass, (s.uls.queue c.toClass).frames = []) :
    arbitrate s = s := by
  have hnext : s.uls.nextWaiting = none := (nextWaiting_eq_none_iff _).mpr fun c hc => absurd (hnone c) hc
  rw [arbitrate_renews hpay (fun ⟨_, hwaits⟩ => hwaits (hnone _)) hnext, sendHead_nil (hnone _)]

/-- Every step sends at most the head of one queue. -/
theorem arbitrate_cases (s : State) : ∃ c holder budget, arbitrate s = sendHead c holder budget s := by
  by_cases hpay : s.uls.pay.frames = []
  · by_cases hgoes : 0 < s.uls.allowance ∧ (s.uls.queue s.uls.holder.toClass).frames ≠ []
    · obtain ⟨hleft, hwaits⟩ := hgoes
      exact ⟨_, _, _, arbitrate_goesOn hpay hleft hwaits⟩
    · cases hnext : s.uls.nextWaiting with
      | some c => exact ⟨_, _, _, arbitrate_passesOn hpay hgoes hnext⟩
      | none => exact ⟨_, _, _, arbitrate_renews hpay hgoes hnext⟩
  · exact ⟨_, _, _, arbitrate_pay hpay⟩

theorem arbitrate_frame (s : State) :
    arbitrate s = { s with uls := (arbitrate s).uls, out := { s.out with wan := (arbitrate s).out.wan } } := by
  obtain ⟨c, holder, budget, h⟩ := arbitrate_cases s
  rw [h]
  exact sendHead_frame c holder budget s

theorem exec_wanReady (h : s.power = .running) : exec .wanReady s = .next (arbitrate s) :=
  congrArg Host.Outcome.next (whileRunning_on arbitrate h)

end Sys2Proof.Machine

/-! ### The obligation of 09 -/

namespace Sys2Proof.Proofs

open Sys2Proof.Machine

/-- Settles O48: the equation of each step of R153, and what sending a head does. -/
theorem wanReadySendsByTheArbiter : Obligations.WanReadySendsByTheArbiter := by
  intro s hrun
  refine ⟨arbitrate s, exec_wanReady hrun, arbitrate_frame s, ?pay, ?goesOn, ?passesOn, ?renews, ?idle⟩
  case pay =>
    intro f rest hpay
    rw [arbitrate_pay (hpay ▸ List.cons_ne_nil f rest), sendHead_cons (c := .pay) hpay]
    exact ⟨rfl, rfl, rfl⟩
  case goesOn =>
    intro hpay f rest hleft hheld
    rw [arbitrate_goesOn hpay hleft (hheld ▸ List.cons_ne_nil f rest)]
    exact sendHead_sends hheld
  case passesOn =>
    intro hpay hover c f rest hnext hc
    have hstops : ¬(0 < s.uls.allowance ∧ (s.uls.queue s.uls.holder.toClass).frames ≠ []) :=
      fun ⟨hleft, hwaits⟩ => hover.elim hleft.ne' (· hwaits)
    rw [arbitrate_passesOn hpay hstops ((nextWaiting_eq_find _).trans hnext)]
    exact sendHead_sends hc
  case renews =>
    intro hpay hzero honly f rest hheld
    rw [arbitrate_renews hpay (fun ⟨hleft, _⟩ => hleft.ne' hzero) ((nextWaiting_eq_none_iff _).mpr honly)]
    exact sendHead_sends hheld
  case idle =>
    intro hpay hnone
    exact arbitrate_idle hpay fun c => not_not.mp (hnone c)

end Sys2Proof.Proofs
end

section
/-! FAULT-READ and FAULT-CLEAR (11): what logging and clearing do to a Fault Record, and one equation per answer of R185. -/

namespace Sys2Proof.Machine

variable {s : State} {d : FaultDomain} {a : FaultClearArgs}

/-! ### Fault sequences (R184) -/

theorem next16_of_lt {n : Nat} (h : n < 65535) : next16 n = n + 1 := if_pos h

/-- Not even the turn from 65,535 to 1 repeats a sequence. -/
theorem next16_ne_self (n : Nat) : next16 n ≠ n := by
  unfold next16 max16
  split <;> omega

theorem FaultRecord.log_seq (code time : Nat) (x : FaultDetail) (r : FaultRecord) : (r.log code time x).seq = next16 r.seq := by
  unfold FaultRecord.log
  split <;> rfl

theorem FaultRecord.log_held_ne_none (code time : Nat) (x : FaultDetail) (r : FaultRecord) : (r.log code time x).held ≠ none := by
  unfold FaultRecord.log
  split <;> exact Option.some_ne_none _

/-- A clear record takes the fault as its first. -/
theorem FaultRecord.log_of_clear (code time : Nat) (x : FaultDetail) (seq : Nat) :
    FaultRecord.log code time x ⟨seq, none⟩ = ⟨next16 seq, some ⟨code, time, x, 0⟩⟩ := rfl

/-- The port takes requests after a fault as before it. -/
@[simp] theorem logFault_canTake (d : FaultDomain) (code : Nat) (x : FaultDetail) : (s.logFault d code x).canTake = s.canTake := by
  rw [Bool.eq_iff_iff]
  simp only [canTake_iff, MessagePort.unreplied, logFault_power, logFault_replies]

/-! ### A record cleared (R185) -/

@[simp] theorem clearFault_replies (d : FaultDomain) : (clearFault d s).msp.replies = s.msp.replies := by cases d <;> rfl
@[simp] theorem clearFault_reports (d : FaultDomain) : (clearFault d s).msp.reports = s.msp.reports := by cases d <;> rfl
@[simp] theorem clearFault_clock (d : FaultDomain) : (clearFault d s).msp.clock = s.msp.clock := by cases d <;> rfl
@[simp] theorem clearFault_now (d : FaultDomain) : (clearFault d s).now = s.now := congrArg BranchClock.reading (clearFault_clock d)

theorem clearFault_own (d : FaultDomain) (s : State) :
    (clearFault d s).msp.faultRecord d = ⟨(s.msp.faultRecord d).seq, none⟩ := setFaultRecord_same ..

theorem clearFault_other {d e : FaultDomain} (s : State) (h : d ≠ e) :
    (clearFault d s).msp.faultRecord e = s.msp.faultRecord e := setFaultRecord_ne _ _ h

/-! ### The answers of R185 -/

theorem exec_faultRead (tag dom : Nat) (h : s.canTake = true) : exec (.faultRead tag (some dom)) s =
    .next ((faultRead dom s).1.addReply tag .request (faultRead dom s).2) :=
  congrArg Host.Outcome.next (hostRequest_taken tag _ h)

theorem exec_faultClear (tag : Nat) (a : FaultClearArgs) (h : s.canTake = true) : exec (.faultClear tag (some a)) s =
    .next ((faultClear a s).1.addReply tag .request (faultClear a s).2) :=
  congrArg Host.Outcome.next (hostRequest_taken tag _ h)

theorem faultRead_unknown {dom : Nat} (h : domainOf dom = none) : faultRead dom s = (s, .refused .badField .noDetail) := by
  simp only [faultRead, h, Reply.refuse]

theorem faultRead_known {dom : Nat} (h : domainOf dom = some d) :
    faultRead dom s = (s, .ok (.fault (s.msp.faultRecord d)) []) := by
  simp only [faultRead, h]

theorem faultClear_unknown (h : domainOf a.domain = none) : faultClear a s = (s, .refused .badField .noDetail) := by
  simp only [faultClear, h, Reply.refuse]

theorem faultClear_of_clear (h : domainOf a.domain = some d) (hclear : (s.msp.faultRecord d).held = none) :
    faultClear a s = (s, .refused .state .noDetail) := by
  simp [faultClear, h, hclear, Reply.refuse]

theorem faultClear_of_stale (h : domainOf a.domain = some d) (hheld : (s.msp.faultRecord d).held ≠ none)
    (hseq : (s.msp.faultRecord d).seq ≠ a.seq) :
    faultClear a s = (s, .refused .staleClear (.sequence (s.msp.faultRecord d).seq)) := by
  simp [faultClear, h, hheld, hseq]

theorem faultClear_of_match (h : domainOf a.domain = some d) (hheld : (s.msp.faultRecord d).held ≠ none)
    (hseq : (s.msp.faultRecord d).seq = a.seq) : faultClear a s = (clearFault d s, .ok .empty []) := by
  simp [faultClear, h, hheld, hseq, Reply.okay]

/-- The clear is taken first: the fault is the cleared record's new first. -/
theorem logFault_after_clear_held (d : FaultDomain) (code tag : Nat) (x : FaultDetail) (p : ReplyPlace) (r : Reply) (s : State) :
    ((((clearFault d s).addReply tag p r).logFault d code x).msp.faultRecord d).held = some ⟨code, s.now, x, 0⟩ := by
  rw [logFault_own, addReply_faultRecord, clearFault_own, FaultRecord.log_of_clear, addReply_now, clearFault_now]

/-- The fault is taken first: the clear that names the sequence before it is stale, and no unseen fault is wiped. -/
theorem faultClear_after_logFault (code : Nat) (x : FaultDetail) (h : domainOf a.domain = some d)
    (hseq : (s.msp.faultRecord d).seq = a.seq) : faultClear a (s.logFault d code x) =
      (s.logFault d code x, .refused .staleClear (.sequence (next16 a.seq))) := by
  have hnext : ((s.logFault d code x).msp.faultRecord d).seq = next16 a.seq := by
    rw [logFault_own, FaultRecord.log_seq, hseq]
  have hheld : ((s.logFault d code x).msp.faultRecord d).held ≠ none := by
    rw [logFault_own]
    exact FaultRecord.log_held_ne_none _ _ _ _
  have hstale : ((s.logFault d code x).msp.faultRecord d).seq ≠ a.seq := hnext ▸ next16_ne_self a.seq
  rw [faultClear_of_stale h hheld hstale, hnext]

end Sys2Proof.Machine

/-! ### The obligation of 11 -/

namespace Sys2Proof.Proofs

open Sys2Proof.Machine

/-- Settles O56: the answers of R185 case by case, and the two orders of a clear and a new fault. -/
theorem faultReadAndClear : Obligations.FaultReadAndClear := by
  intro tag a s hs
  have hread := exec_faultRead tag a.domain hs
  have hclear := exec_faultClear tag a hs
  refine ⟨fun hdom => ⟨?readUnknown, ?clearUnknown⟩, fun d hdom => ⟨?readKnown, fun hheld => ?alreadyClear,
    fun hheld hseq => ?stale, fun hheld hseq code x => ⟨?clearFirst, ?faultFirst⟩⟩⟩
  case readUnknown => rw [hread, faultRead_unknown hdom]
  case clearUnknown => rw [hclear, faultClear_unknown hdom]
  case readKnown => rw [hread, faultRead_known hdom]
  case alreadyClear => rw [hclear, faultClear_of_clear hdom hheld]
  case stale => rw [hclear, faultClear_of_stale hdom hheld hseq]
  case clearFirst =>
    rw [faultClear_of_match hdom hheld hseq] at hclear
    refine ⟨_, hclear, rfl, ?_, clearFault_reports d, clearFault_clock d, ?_, fun e he => ?_, logFault_after_clear_held ..⟩
    · rw [addReply_replies, clearFault_replies]
    · rw [addReply_faultRecord, clearFault_own]
    · rw [addReply_faultRecord, clearFault_other s he.symm]
  case faultFirst =>
    have hafter := exec_faultClear tag a (s := s.logFault d code x) (by rw [logFault_canTake, hs])
    rw [faultClear_after_logFault code x hdom hseq] at hafter
    exact ⟨next16 a.seq, next16_ne_self a.seq, fun hlt => hseq ▸ next16_of_lt hlt, hafter⟩

end Sys2Proof.Proofs
end

section
/-! The invariants of a sound part carried together: what every operation inside the part keeps, block by block. The later sections of this
family put these lemmas together into one statement about every command. -/
-- A theorem that uses a default proof of `Keeps` waits for all the theorems before it; elaborated one after another they need no threads of their own.
set_option Elab.async false

namespace Sys2Proof.Machine

/-- The invariants of Safety.lean but that of the replies, each kept, and no command taken from the queue or added to it. A field that an
operation does not concern holds of it by definition. -/
structure SoundKeeps (s t : State) : Prop where
  pending : t.pending = s.pending := by rfl
  reports : s.reportsBounded → t.reportsBounded := by exact id
  queues : s.queuesBounded → t.queuesBounded := by exact id
  items : s.itemsOrdered → t.itemsOrdered := by exact id
  sound : s.itemsSound → t.itemsSound := by exact id
  labels : s.labelsOrdered → t.labelsOrdered := by exact id
  guests : s.guestsOrdered → t.guestsOrdered := by exact id
  baskets : s.basketsBounded → t.basketsBounded := by exact id
  sessions : s.sessionsSettled → t.sessionsSettled := by exact id
  cells : s.cellsFixed → t.cellsFixed := by exact id
  flags : s.flagsSingle → t.flagsSingle := by exact id
  settings : s.settingsInRange → t.settingsInRange := by exact id
  base : s.baseStands → t.baseStands := by exact id

/-- An operation inside the part keeps the invariants, and adds and takes no reply. -/
structure Keeps (s t : State) : Prop extends SoundKeeps s t where
  replies : t.msp.replies = s.msp.replies := by rfl

theorem SoundKeeps.trans {s t u : State} (h : SoundKeeps s t) (g : SoundKeeps t u) : SoundKeeps s u where
  pending := g.pending.trans h.pending
  reports := g.reports ∘ h.reports
  queues := g.queues ∘ h.queues
  items := g.items ∘ h.items
  sound := g.sound ∘ h.sound
  labels := g.labels ∘ h.labels
  guests := g.guests ∘ h.guests
  baskets := g.baskets ∘ h.baskets
  sessions := g.sessions ∘ h.sessions
  cells := g.cells ∘ h.cells
  flags := g.flags ∘ h.flags
  settings := g.settings ∘ h.settings
  base := g.base ∘ h.base

namespace Keeps

variable {s t u : State}

theorem refl (s : State) : Keeps s s := {}

theorem trans (h : Keeps s t) (g : Keeps t u) : Keeps s u :=
  ⟨h.toSoundKeeps.trans g.toSoundKeeps, g.replies.trans h.replies⟩

theorem ite {c : Prop} [Decidable c] (h : c → Keeps s t) (g : ¬c → Keeps s u) : Keeps s (if c then t else u) := by
  split
  · exact h ‹_›
  · exact g ‹_›

theorem foldl {α : Type} {f : State → α → State} (h : ∀ s a, Keeps s (f s a)) (l : List α) (s : State) : Keeps s (l.foldl f s) := by
  induction l generalizing s with
  | nil => exact refl s
  | cons a l ih => exact (h s a).trans (ih _)

end Keeps

variable (s : State)

/-! ### Blocks and fields that no invariant is about -/

theorem keeps_jnl (j : Journal) : Keeps s { s with jnl := j } := {}
theorem keeps_out (o : Outputs) : Keeps s { s with out := o } := {}
theorem keeps_free (n : Nat) : Keeps s { s with free := n } := {}
theorem keeps_power (p : Power) : Keeps s { s with power := p } := {}
theorem keeps_onSession (f : ExchangeSession → ExchangeSession) : Keeps s (s.onSession f) := {}
theorem keeps_onCutover (f : Cutover → Cutover) : Keeps s (s.onCutover f) := {}
theorem keeps_setWalk (w : Option Walk) : Keeps s (s.setWalk w) := {}
theorem keeps_onCounts (f : ForwardCounts → ForwardCounts) : Keeps s (s.onCounts f) := {}
theorem keeps_guestDrop (d : GuestDrop) : Keeps s (s.guestDrop d) := {}
theorem keeps_sendHost (f : HostFrame) : Keeps s (sendHost f s) := {}
theorem keeps_sendLane (st : HwAddr) (ms : List LaneMessage) : Keeps s (sendLane st ms s) := {}

/-! ### The Message Port (R183, R184) -/

theorem keeps_report (b : ReportBody) : Keeps s (s.report b) where
  reports h := queueReport_length _ _ _ h

theorem keeps_setFaultRecord (d : FaultDomain) (r : FaultRecord) : Keeps s { s with msp := s.msp.setFaultRecord d r } where
  replies := by cases d <;> rfl
  reports h := by cases d <;> exact h

theorem keeps_logFault (d : FaultDomain) (code : Nat) (x : FaultDetail) : Keeps s (s.logFault d code x) :=
  (keeps_setFaultRecord s d _).trans (keeps_report _ _)

theorem keeps_clearFault (d : FaultDomain) : Keeps s (clearFault d s) := keeps_setFaultRecord s d _

theorem keeps_frameErrorSeen (c : FrameErrorCause) : Keeps s (s.frameErrorSeen c) := by
  unfold State.frameErrorSeen
  exact .ite (fun _ => { reports := fun h => (updateFrameError_length ..).trans_le h })
    fun _ => .trans (t := { s with msp := { s.msp with frameErrors := bump max32 s.msp.frameErrors } }) {} (keeps_report _ _)

/-! ### The journal (04) -/

theorem keeps_checkPage (mem : MemFaults) (r : JournalRecord) (i : Nat) : Keeps s (checkPage mem r i s) := by
  unfold checkPage
  exact .trans (.ite (fun _ => keeps_logFault ..) fun _ => .refl s) (keeps_jnl _ _)

theorem keeps_reclaimOne (mem : MemFaults) : Keeps s (reclaimOne mem s) := by
  unfold reclaimOne
  split
  · exact .refl s
  · exact (keeps_checkPage ..).trans (keeps_jnl _ _)

theorem keeps_reclaim (mem : MemFaults) (need fuel : Nat) : Keeps s (reclaim mem need fuel s) := by
  induction fuel generalizing s with
  | zero => exact .refl s
  | succ fuel ih => exact .ite (fun _ => .refl s) fun _ => (keeps_reclaimOne ..).trans (ih _)

theorem keeps_refuseAppend (c : JournalContent) : Keeps s (refuseAppend c s) := by
  unfold refuseAppend
  exact .ite (fun _ => (keeps_jnl s _).trans (keeps_report _ _)) fun _ => keeps_jnl _ _

theorem keeps_judgeHighWater : Keeps s (judgeHighWater s) := by
  unfold judgeHighWater
  exact .ite (fun _ => (keeps_jnl s _).trans (keeps_report _ _)) fun _ => .refl s

theorem keeps_acceptAppend (mem : MemFaults) (c : JournalContent) : Keeps s (acceptAppend mem c s) :=
  ((keeps_reclaim ..).trans (keeps_jnl _ _)).trans (keeps_judgeHighWater _)

theorem keeps_journalAppend (mem : MemFaults) (c : JournalContent) : Keeps s (journalAppend mem c s).1 := by
  unfold journalAppend
  split
  · exact keeps_acceptAppend ..
  · exact keeps_refuseAppend ..

theorem keeps_readRingPages (mem : MemFaults) (n pos : Nat) : Keeps s (readRingPages mem n pos s).1 := by
  induction n generalizing pos s with
  | zero => exact .refl s
  | succ n ih =>
    have hpage : Keeps s (readRingPage mem pos s).1 := by
      unfold readRingPage
      split
      · exact .refl s
      · exact keeps_checkPage ..
    exact hpage.trans (ih _ _)

theorem keeps_blockRead (mem : MemFaults) (start n : Nat) : Keeps s (blockRead mem start n s).1 := by
  unfold blockRead
  split
  · exact .refl s
  · dsimp only
    split
    · exact keeps_readRingPages ..
    · exact .refl s

theorem keeps_acknowledge (extent : Nat) : Keeps s (acknowledge extent s) := by
  unfold acknowledge
  split
  · exact .refl s
  · exact .ite (fun _ => keeps_jnl _ _) fun _ => .refl s

/-! ### The Item Table (01) -/

theorem mem_putKey {α : Type} {key : α → Nat} {x y : α} {l : List α} (h : y ∈ putKey key x l) : y = x ∨ y ∈ l := by
  induction l with
  | nil => simpa [putKey] using h
  | cons z zs ih =>
    simp only [putKey] at h
    split at h
    · simpa using h
    · split at h
      · simp only [List.mem_cons] at h ⊢; tauto
      · simp only [List.mem_cons] at h ⊢; tauto

theorem mem_of_item {s : State} {c : Nat} {r : ItemRecord} (h : s.item c = some r) : r ∈ s.itb.items := List.mem_of_find?_eq_some h

/-- A record of a code that is there already, written over it. -/
theorem keeps_putItem {s : State} {c : Nat} {r r' : ItemRecord} (hr : s.item c = some r) (hc : r'.code = r.code := by rfl)
    (hs : r.sound → r'.sound := by exact id) : Keeps s (s.putItem r') where
  items := by
    rintro ⟨hord, hlen, hcode⟩
    have hheld : findKey ItemRecord.code r'.code s.itb.items = some r := by rw [hc, item_code hr]; exact hr
    refine ⟨putKey_sorted _ _ _ hord, (putKey_length_of_held _ _ _ hord hheld).trans_le hlen, fun x hx => ?_⟩
    rcases mem_putKey hx with rfl | hx
    · rw [hc]; exact hcode r (mem_of_item hr)
    · exact hcode x hx
  sound h x hx := by
    rcases mem_putKey hx with rfl | hx
    · exact hs (h r (mem_of_item hr))
    · exact h x hx

/-- A record of a new code where the table has room. -/
theorem keeps_putItem_new {s : State} {r : ItemRecord} (hlen : s.itb.items.length < maxItems) (hcode : codeOk r.code = true)
    (hs : r.sound) : Keeps s (s.putItem r) where
  items := by
    rintro ⟨hord, -, hcodes⟩
    refine ⟨putKey_sorted _ _ _ hord, (putKey_length_le _ _ _).trans hlen, fun x hx => ?_⟩
    rcases mem_putKey hx with rfl | hx
    · exact hcode
    · exact hcodes x hx
  sound h x hx := by
    rcases mem_putKey hx with rfl | hx
    · exact hs
    · exact h x hx

theorem keeps_dropItem (c : Nat) : Keeps s (s.dropItem c) where
  items h := ⟨dropKey_sorted _ _ _ h.1, (dropKey_length_le _ _ _).trans h.2.1, fun x hx => h.2.2 x (List.mem_of_mem_filter hx)⟩
  sound h x hx := h x (List.mem_of_mem_filter hx)

theorem sound_fresh (code : Nat) (desc : Text) (band : Nat) (cur : Option PriceRecord) (p : Option Pending) :
    ItemRecord.sound { ItemRecord.fresh code desc band with current := cur, pending := p } := by
  simp [ItemRecord.sound, ItemRecord.fresh, ItemRecord.pendingCount]

theorem pendingCount_pos {r : ItemRecord} (h : 0 < r.pendingCount) : r.labels ≠ [] := by
  rintro hnil
  simp [ItemRecord.pendingCount, hnil] at h

theorem previousAfter_isSome {old new v : Nat} {cur : Option PriceRecord} {prev : Option Previous}
    (hcur : 0 < new → cur.isSome = true) (hprev : prev.isSome = true ↔ 0 < old) :
    (previousAfter old new v cur prev).isSome = true ↔ 0 < new := by
  unfold previousAfter
  split
  · simp [*]
  · split
    · simp only [Option.isSome_map]
      exact ⟨fun _ => by omega, hcur⟩
    · rw [hprev]; omega

/-- A recomputation of the count makes the lag start true to it (R7). -/
theorem recount_lagStart {now : Nat} {r : ItemRecord} (h : r.lagStart.isSome = true ↔ 0 < r.count) :
    (r.recount now).lagStart.isSome = true ↔ 0 < (r.recount now).count := by
  simp only [ItemRecord.recount]
  split
  · simp [*]
  · split
    · simp; omega
    · rw [h]; omega

/-- Labels moved beside a current, four at most, leave a sound record (R6 to R8). -/
theorem sound_relabel {now : Nat} {ls : List BoundLabel} {r : ItemRecord} (h : r.sound) (hcur : ls ≠ [] → r.current.isSome = true)
    (hlen : ls.length ≤ 4) : (r.relabel now ls).sound := by
  obtain ⟨-, hlag, hprev, -, -⟩ := h
  refine ⟨rfl, recount_lagStart (r := { r with labels := ls }) hlag, previousAfter_isSome (fun hpos => hcur ?_) hprev, hcur, hlen⟩
  exact pendingCount_pos (r := { r with labels := ls }) hpos

theorem keepPrevious_isSome (n : Nat) (e o : Option Previous) (i : Previous) :
    (keepPrevious n e o i).isSome = true ↔ 0 < n := by
  unfold keepPrevious
  split
  · simp [*]
  · have hpos : 0 < n := by omega
    cases e <;> cases o <;> dsimp only
    case some.some => split <;> simp [hpos]
    all_goals simp [hpos]

/-- A change of current leaves a sound record (R3, R7, R9). -/
theorem sound_changed {mem : MemFaults} {now : Nat} {p : PriceRecord} {r : ItemRecord} (h : r.sound) : (r.changed mem now p).sound := by
  obtain ⟨-, hlag, -, -, hlen⟩ := h
  exact ⟨rfl, recount_lagStart (r := { r with version := wrap16 r.version, current := some p }) hlag, keepPrevious_isSome _ _ _ _,
    fun _ => rfl, hlen⟩

theorem keeps_checkItem (mem : MemFaults) (code : Nat) : Keeps s (checkItem mem code s) := by
  rcases checkItem_cases mem code s with h | ⟨r, hr, -, -, h⟩
  · rw [h]; exact .refl s
  · rw [h]; exact (keeps_putItem hr).trans (keeps_logFault ..)

/-- A checked read leaves the code's record where it is, but for its DAMAGED mark (R22). -/
theorem checkItem_item {mem : MemFaults} {s : State} {c code : Nat} {r : ItemRecord} (h : s.item c = some r) :
    ∃ d, (checkItem mem code s).item c = some { r with damaged := d } := by
  rcases checkItem_cases mem code s with e | ⟨x, hx, -, -, e⟩
  · exact ⟨r.damaged, by rw [e, h]⟩
  · rw [e, logFault_item]
    by_cases hc : c = code
    · subst hc
      obtain rfl : x = r := Option.some.inj (hx.symm.trans h)
      refine ⟨true, ?_⟩
      obtain rfl := item_code h
      exact putItem_item s { x with damaged := true }
    · exact ⟨r.damaged, by rw [putItem_item_ne _ _ (by simpa [item_code hx] using hc), h]⟩

@[simp] theorem checkItem_lrc (mem : MemFaults) (code : Nat) : (checkItem mem code s).lrc = s.lrc := by
  obtain ⟨its, m, h, -⟩ := checkItem_frame mem code s
  rw [h]

/-! ### The Label Radio Controller (05) -/

/-- The label entries of a directory stand in ascending order of address, at addresses that exist (R79). -/
def LabelRadio.Ordered (l : LabelRadio) : Prop :=
  (l.directory.Pairwise fun a b => a.key < b.key) ∧ ∀ e ∈ l.directory, addrOk e.addr = true

/-- An operation of the Label Radio Controller keeps its directory in order and its two settings. -/
structure LabelRadio.Keeps (l m : LabelRadio) : Prop where
  ordered : l.Ordered → m.Ordered := by exact id
  retryLimit : m.retryLimit = l.retryLimit := by rfl
  presence : m.presence = l.presence := by rfl

namespace LabelRadio

variable {l m n : LabelRadio} {e x : LabelEntry} {a : LabelAddr}

theorem Keeps.refl (l : LabelRadio) : Keeps l l := {}

theorem Keeps.trans (h : Keeps l m) (g : Keeps m n) : Keeps l n :=
  ⟨g.ordered ∘ h.ordered, g.retryLimit.trans h.retryLimit, g.presence.trans h.presence⟩

theorem Keeps.foldl {α : Type} {f : LabelRadio → α → LabelRadio} (h : ∀ l a, Keeps l (f l a)) (as : List α) (l : LabelRadio) :
    Keeps l (as.foldl f l) := by
  induction as generalizing l with
  | nil => exact .refl l
  | cons a as ih => exact (h l a).trans (ih _)

theorem mem_of_entry (h : l.entry a = some e) : e ∈ l.directory := List.mem_of_find?_eq_some h

theorem Ordered.addrOk_of_entry (hl : l.Ordered) (h : l.entry a = some e) : addrOk e.addr = true := hl.2 e (mem_of_entry h)

theorem keeps_put (h : l.Ordered → addrOk e.addr = true) : Keeps l (l.put e) where
  ordered hl := by
    refine ⟨putKey_sorted _ _ _ hl.1, fun y hy => ?_⟩
    rcases mem_putKey hy with rfl | hy
    · exact h hl
    · exact hl.2 y hy

/-- An entry written over the one it comes from. -/
theorem keeps_put_of_entry (h : l.entry a = some x) (ha : e.addr = x.addr := by rfl) : Keeps l (l.put e) :=
  keeps_put fun hl => ha ▸ hl.addrOk_of_entry h

theorem keeps_join (now : Nat) (a : LabelAddr) (r : Reason) (k : Attempt) (l : LabelRadio) : Keeps l (l.join now a r k) := {}
theorem keeps_leave (a : LabelAddr) (l : LabelRadio) : Keeps l (l.leave a) := {}
theorem keeps_setReason (a : LabelAddr) (r : Reason) (l : LabelRadio) : Keeps l (l.setReason a r) := {}
theorem keeps_staleAnswer (l : LabelRadio) : Keeps l l.staleAnswer := {}
theorem keeps_accept (p : Bool) (f : FrameInFlight) (l : LabelRadio) : Keeps l (l.accept p f) := {}
theorem keeps_setCodes (first last code : Nat) (l : LabelRadio) : Keeps l (l.setCodes first last code) := by
  unfold setCodes
  generalize Vector.ofFn _ = rails
  exact {}

theorem keeps_enqueue (now : Nat) (r : Reason) (k : Attempt) (h : l.Ordered → addrOk e.addr = true) :
    Keeps l (l.enqueue now e r k) := .trans (keeps_put (e := { e with state := .queued, owed := some r }) h) (keeps_join ..)

theorem keeps_cause (now : Nat) (r : Reason) (a : LabelAddr) (l : LabelRadio) : Keeps l (l.cause now r a) := by
  unfold cause
  cases he : l.entry a with
  | none => exact .refl l
  | some e =>
    dsimp only
    split
    · exact (keeps_put_of_entry he).trans (keeps_setReason ..)
    · exact (keeps_put_of_entry he).trans (keeps_setReason ..)
    · exact keeps_enqueue _ _ _ (·.addrOk_of_entry he)
    · exact keeps_put_of_entry he
    · exact keeps_put_of_entry he

theorem keeps_causes (now : Nat) (r : Reason) (as : List LabelAddr) (l : LabelRadio) : Keeps l (l.causes now r as) :=
  .foldl (fun l a => keeps_cause now r a l) as l

theorem keeps_loseItem (now : Nat) (a : LabelAddr) (l : LabelRadio) : Keeps l (l.loseItem now a) := by
  unfold loseItem
  split
  · exact .refl l
  · exact (keeps_put_of_entry ‹_›).trans (keeps_cause ..)

theorem keeps_removalNotice (now code : Nat) (as : List LabelAddr) (l : LabelRadio) : Keeps l (l.removalNotice now code as) :=
  .foldl (fun l a => keeps_loseItem now a l) _ l

theorem keeps_overlayNotice (now first last : Nat) (l : LabelRadio) : Keeps l (l.overlayNotice now first last) := keeps_causes ..

theorem keeps_rebindNotice (now : Nat) (a : LabelAddr) (l : LabelRadio) : Keeps l (l.rebindNotice now a) := by
  unfold rebindNotice
  split
  · exact .refl l
  · exact (keeps_put_of_entry ‹_›).trans (keeps_cause ..)

/-- Entries changed in place, each at its own address. -/
theorem keeps_map {f : LabelEntry → LabelEntry} (h : ∀ e, (f e).addr = e.addr) (l : LabelRadio) :
    Keeps l { l with directory := l.directory.map f } where
  ordered hl := by
    refine ⟨List.pairwise_map.mpr (hl.1.imp fun {a b} hab => ?_), fun y hy => ?_⟩
    · simpa only [LabelEntry.key, h] using hab
    · obtain ⟨e, he, rfl⟩ := List.mem_map.mp hy
      rw [h]; exact hl.2 e he

theorem keeps_exclude (code version : Nat) (l : LabelRadio) : Keeps l (l.exclude code version).1 :=
  keeps_map (fun e => by split <;> rfl) l

theorem keeps_create (now : Nat) (item : Option Nat) (template : Nat) (l : LabelRadio) (h : addrOk a = true) :
    Keeps l (l.create now a item template) := (keeps_put fun _ => h).trans (keeps_join ..)

theorem keeps_remove (a : LabelAddr) (l : LabelRadio) : Keeps l (l.remove a) where
  ordered hl := ⟨dropKey_sorted _ _ _ hl.1, fun y hy => hl.2 y (List.mem_of_mem_filter hy)⟩

theorem keeps_undo (g : Grant) (l : LabelRadio) : Keeps l (l.undo g) := by
  unfold undo
  cases he : l.entry g.addr with
  | none => exact .refl l
  | some e =>
    dsimp only
    split
    · exact Keeps.trans (keeps_put_of_entry (e := { e with
        state := g.oldState, owed := raiseOpt e.owed e.requeue, requeue := none, lastSend := g.oldSend }) he rfl) {}
    · exact .refl l

theorem keeps_warm (now : Nat) (l : LabelRadio) : Keeps l (l.warm now) :=
  ((keeps_map (f := (·.warm)) (fun _ => rfl) l).trans {}).trans (.foldl (fun l (e : LabelEntry) => keeps_join now e.addr _ _ l) _ _)

end LabelRadio

theorem keeps_lrc {s : State} {l : LabelRadio} (h : LabelRadio.Keeps s.lrc l) : Keeps s { s with lrc := l } where
  labels := h.ordered
  settings := by
    simp only [State.settingsInRange, h.retryLimit, h.presence]
    exact id

theorem keeps_onLrc {s : State} {f : LabelRadio → LabelRadio} (h : LabelRadio.Keeps s.lrc (f s.lrc)) : Keeps s (s.onLrc f) :=
  keeps_lrc h

theorem keeps_enterMissing {s : State} {e : LabelEntry} (cause : MissingCause) (h : s.labelsOrdered → addrOk e.addr = true) :
    Keeps s (enterMissing cause e s) :=
  (keeps_onLrc ((LabelRadio.keeps_put (e := { e with state := .missing }) h).trans (LabelRadio.keeps_leave ..))).trans (keeps_report _ _)

/-! ### Items and labels together -/

/-- A change of current of a record of the table (R3). -/
theorem keeps_changeCurrent {s : State} {r : ItemRecord} {also : ItemRecord → ItemRecord} (mem : MemFaults) (p : PriceRecord)
    (hr : s.item r.code = some r) (hc : ∀ x, (also x).code = x.code) (hs : ∀ x : ItemRecord, x.sound → (also x).sound) :
    Keeps s (changeCurrent mem p also r s) := by
  have hput (u : State) (d : Bool) (hu : u.item r.code = some { r with damaged := d }) :
      Keeps u (tellVersion r (u.putItem (also (r.changed mem u.now p)))) :=
    (keeps_putItem (r' := also (r.changed mem u.now p)) hu (hc _) fun h => hs _ (sound_changed (r := r) h)).trans (keeps_onLrc (LabelRadio.keeps_causes ..))
  unfold changeCurrent
  split
  · obtain ⟨d, hd⟩ := checkItem_item (mem := mem) (code := r.code) hr
    exact (keeps_checkItem ..).trans (hput _ d hd)
  · exact hput s r.damaged hr

theorem keeps_removeItem (r : ItemRecord) : Keeps s (removeItem r s) :=
  (keeps_dropItem ..).trans (keeps_onLrc (LabelRadio.keeps_removalNotice ..))

theorem keeps_dropPending {s : State} {c : Nat} {r : ItemRecord} (hr : s.item c = some r) : Keeps s (dropPending r s) := by
  unfold dropPending
  exact .ite (fun _ => keeps_dropItem ..) fun _ => keeps_putItem hr

theorem keeps_visitPending (mem : MemFaults) (sel : ItemRecord → Bool) (code : Nat) : Keeps s (visitPending mem sel code s) := by
  refine (keeps_checkItem s mem code).trans ?_
  unfold visitPending
  dsimp only
  split
  · exact .ite (fun _ => keeps_dropPending ‹_›) fun _ => .refl _
  · exact .refl _

theorem keeps_bindNotice {s : State} {code : Nat} (a : LabelAddr)
    (h : ∀ r, s.item code = some r → r.labels.length < 4 ∧ r.current.isSome = true) : Keeps s (bindNotice code a s) := by
  unfold bindNotice
  split
  · exact .refl s
  · rename_i r hr
    obtain ⟨hlen, hcur⟩ := h r hr
    exact keeps_putItem hr (hs := fun hs => sound_relabel hs (fun _ => hcur) (by simp; omega))

theorem keeps_unbindNotice (code : Nat) (a : LabelAddr) : Keeps s (unbindNotice code a s) := by
  unfold unbindNotice
  split
  · exact .refl s
  · rename_i r hr
    refine keeps_putItem hr rfl fun hs => sound_relabel hs (fun hne => ?_) ((List.length_filter_le _ _).trans hs.2.2.2.2)
    exact hs.2.2.2.1 fun hnil => hne (by simp [hnil])

theorem keeps_ackNotice (code : Nat) (a : LabelAddr) (v : Nat) : Keeps s (ackNotice code a v s) := by
  unfold ackNotice
  split
  · exact .refl s
  · rename_i r hr
    refine .ite (fun _ => keeps_putItem hr rfl fun hs => sound_relabel hs (fun hne => ?_) ?_) fun _ => .refl s
    · exact hs.2.2.2.1 fun hnil => hne (by simp [hnil])
    · simpa using hs.2.2.2.2

theorem keeps_judgeLag (code : Nat) : Keeps s (judgeLag code s) := by
  unfold judgeLag
  split
  · exact .refl s
  · rename_i r hr
    exact .ite (fun _ => (keeps_putItem hr).trans (keeps_report _ _)) fun _ => .refl s

theorem keeps_judgeAllLags : Keeps s (judgeAllLags s) := .foldl (fun s c => keeps_judgeLag s c) _ s

theorem keeps_promote {s : State} {r : ItemRecord} (mem : MemFaults) (p : Pending) (hr : s.item r.code = some r) :
    Keeps s (promote mem r p s) := by
  unfold promote
  split
  · exact keeps_changeCurrent mem _ hr (fun _ => rfl) fun _ h => h
  · exact keeps_removeItem ..

end Sys2Proof.Machine
end

section
/-! What the operations of the tills, the templates and the uplink keep. -/
-- A theorem that uses a default proof of `Keeps` waits for all the theorems before it; elaborated one after another they need no threads of their own.
set_option Elab.async false

namespace Sys2Proof.Machine

variable (s : State)

/-! ### A lane's session and basket, read after they are written -/

theorem tget_tset {α : Type} {n : Nat} (v : Vector α n) (i j : Nat) (x d : α) :
    tget (tset v i x) j d = if i = j ∧ i < n then x else tget v j d := by
  by_cases h : i = j
  · subst h
    by_cases hn : i < n
    · simp [hn]
    · simp [hn, tset_out v i x (by omega)]
  · simp [h]

theorem tset_tget {α : Type} {n : Nat} (v : Vector α n) (i : Nat) (d : α) : tset v i (tget v i d) = v := by
  by_cases hn : i < n
  · ext j hj
    simp only [tset, tget, Vector.getElem_setIfInBounds]
    split
    · subst_vars; simp [hj]
    · rfl
  · exact tset_out _ _ _ (by omega)

theorem tset_tset {α : Type} {n : Nat} (v : Vector α n) (i : Nat) (x y : α) : tset (tset v i x) i y = tset v i y := by
  ext j hj
  simp only [tset, Vector.getElem_setIfInBounds]
  split <;> rfl

theorem mem_tset {α : Type} {n : Nat} {v : Vector α n} {i : Nat} {x y : α} (h : y ∈ (tset v i x).toList) : y = x ∨ y ∈ v.toList := by
  simp only [tset, Vector.mem_toList_iff] at h ⊢
  obtain ⟨j, hj, rfl⟩ := Vector.getElem_of_mem h
  rw [Vector.getElem_setIfInBounds]
  split
  · exact .inl rfl
  · exact .inr (Vector.getElem_mem _)

theorem session_setSession (lane l : Nat) (x : Session) :
    (s.setSession lane x).session l = if lane - 1 = l - 1 ∧ lane - 1 < 64 then x else s.session l := tget_tset ..

theorem basket_setBasket (lane l : Nat) (b : Basket) :
    (s.setBasket lane b).basket l = if lane - 1 = l - 1 ∧ lane - 1 < 64 then b else s.basket l := tget_tset ..

theorem setSession_self (lane : Nat) : s.setSession lane (s.session lane) = s := by
  simp only [State.setSession, State.session, tset_tget]

theorem setBasket_self (lane : Nat) : s.setBasket lane (s.basket lane) = s := by
  simp only [State.setBasket, State.basket, tset_tget]

theorem mem_lanes_iff {lane : Nat} : lane ∈ lanes ↔ 1 ≤ lane ∧ lane ≤ 64 := by
  simp only [lanes, List.mem_map, List.mem_range]
  constructor
  · rintro ⟨a, ha, rfl⟩; omega
  · exact fun h => ⟨lane - 1, by omega, by omega⟩

/-! ### Settling (R44) -/

/-- A present session in the state that the hold and its basket settle; any other as it is (R44). -/
def Session.settledIn (hold isOpen : Bool) (x : Session) : Session :=
  if x.state.isPresent then { x with state := settled x.lockout hold isOpen } else x

/-- A session stands settled (R44). -/
def Session.Settled (hold isOpen : Bool) (x : Session) : Prop := x.state.isPresent = true → x.state = settled x.lockout hold isOpen

theorem isPresent_settled (lockout hold isOpen : Bool) : (settled lockout hold isOpen).isPresent = true := by
  cases lockout <;> cases hold <;> cases isOpen <;> rfl

theorem Session.settled_settledIn (hold isOpen : Bool) (x : Session) : (x.settledIn hold isOpen).Settled hold isOpen := by
  unfold settledIn
  split
  · exact fun _ => rfl
  · exact fun h => absurd h ‹_›

theorem Session.settledIn_settledIn (hold isOpen : Bool) (x : Session) :
    (x.settledIn hold isOpen).settledIn hold isOpen = x.settledIn hold isOpen := by
  unfold settledIn
  split
  · simp [isPresent_settled]
  · simp [*]

theorem settle_eq (lane : Nat) :
    settle lane s = s.setSession lane ((s.session lane).settledIn s.tsu.hold (s.basket lane).isOpen) := by
  unfold settle Session.settledIn
  dsimp only
  split
  · rfl
  · rw [setSession_self]

/-- A lane written and settled holds the session settled for the basket written. -/
theorem settle_writes (lane : Nat) (x : Session) (b : Basket) :
    settle lane ((s.setSession lane x).setBasket lane b) =
      (s.setBasket lane b).setSession lane (x.settledIn s.tsu.hold b.isOpen) := by
  rw [settle_eq]
  by_cases hl : lane - 1 < 64
  · rw [setBasket_basket _ _ _ hl, setBasket_session, setSession_session _ _ _ hl]
    simp only [State.setSession, State.setBasket, tset_tset]
  · simp only [State.setSession, State.setBasket, tset_out _ (lane - 1) _ (Nat.not_lt.mp hl)]

theorem settle_setBasket (lane : Nat) (b : Basket) : settle lane (s.setBasket lane b) =
    (s.setBasket lane b).setSession lane ((s.session lane).settledIn s.tsu.hold b.isOpen) := by
  have h := settle_writes s lane (s.session lane) b
  rwa [setSession_self] at h

theorem settle_setSession (lane : Nat) (x : Session) : settle lane (s.setSession lane x) =
    s.setSession lane (x.settledIn s.tsu.hold (s.basket lane).isOpen) := by
  have h := settle_writes s lane x (s.basket lane)
  rwa [show (s.setSession lane x).setBasket lane (s.basket lane) = s.setSession lane x from
    setBasket_self (s.setSession lane x) lane, setBasket_self] at h

/-- A run of settles over some lanes: only sessions move, each lane named is settled, no other is touched. -/
theorem settle_foldl (ls : List Nat) : ∃ ss, ls.foldl (fun s l => settle l s) s = { s with tsu := { s.tsu with sessions := ss } } ∧
    ∀ lane, lane - 1 < 64 → State.session lane { s with tsu := { s.tsu with sessions := ss } } =
      if ∃ l ∈ ls, l - 1 = lane - 1 then (s.session lane).settledIn s.tsu.hold (s.basket lane).isOpen else s.session lane := by
  induction ls generalizing s with
  | nil => exact ⟨s.tsu.sessions, rfl, by simp [State.session]⟩
  | cons l ls ih =>
    obtain ⟨ss, h, hs⟩ := ih (settle l s)
    rw [settle_eq] at h hs
    refine ⟨ss, by rw [List.foldl_cons, settle_eq]; exact h, fun lane hlane => (hs lane hlane).trans ?_⟩
    rw [session_setSession]
    by_cases hl : l - 1 = lane - 1
    · have hb : s.basket l = s.basket lane := by simp only [State.basket, hl]
      have hx : s.session l = s.session lane := by simp only [State.session, hl]
      simp only [hl, hlane, and_self, if_true, List.mem_cons, exists_eq_or_imp, true_or, hx, hb]
      split
      · exact Session.settledIn_settledIn ..
      · rfl
    · simp only [hl, false_and, if_false, List.mem_cons, exists_eq_or_imp, false_or]
      rfl

/-- Every present session settles, and nothing else changes. -/
theorem settleAll_spec : ∃ ss, settleAll s = { s with tsu := { s.tsu with sessions := ss } } ∧
    ∀ lane, lane - 1 < 64 → (settleAll s).session lane = (s.session lane).settledIn s.tsu.hold (s.basket lane).isOpen := by
  obtain ⟨ss, h, hs⟩ := settle_foldl s lanes
  refine ⟨ss, h, fun lane hlane => ?_⟩
  have hex : ∃ l ∈ lanes, l - 1 = lane - 1 := ⟨lane - 1 + 1, mem_lanes_iff.mpr (by omega), by omega⟩
  rw [settleAll, h, hs lane hlane, if_pos hex]

/-- The invariant read lane by lane; lane 0, which no message names, reads the first entry. -/
theorem settled_of_sessionsSettled {s : State} (h : s.sessionsSettled) {lane : Nat} (hl : lane - 1 < 64) :
    (s.session lane).Settled s.tsu.hold (s.basket lane).isOpen :=
  h (lane - 1 + 1) (mem_lanes_iff.mpr (by omega))

/-! ### Lanes kept -/

/-- A basket within its limits (R33, R51). -/
def Basket.Bounded (b : Basket) : Prop := b.lines.length ≤ 200 ∧ runningTotal b.lines ≤ maxAmount

theorem Basket.bounded_nil {b : Basket} (h : b.lines = []) : b.Bounded := by simp [Basket.Bounded, h, runningTotal]

theorem bounded_basket {s : State} (h : s.basketsBounded) (lane : Nat) : (s.basket lane).Bounded := by
  unfold State.basket tget
  cases hb : s.tsu.baskets[lane - 1]? with
  | none => exact Basket.bounded_nil rfl
  | some b => exact h b (Vector.mem_toList_iff.mpr (Vector.mem_of_getElem? hb))

theorem basketsBounded_setBasket {s : State} {lane : Nat} {b : Basket} (h : s.basketsBounded) (hb : b.Bounded) :
    (s.setBasket lane b).basketsBounded := fun x hx => by
  rcases mem_tset hx with rfl | hx
  · exact hb
  · exact h x hx

/-- A lane's session and basket written together, the session settled for them. -/
theorem keeps_writeLane (lane : Nat) (x : Session) (b : Basket) (hb : s.basketsBounded → b.Bounded) :
    Keeps s ((s.setBasket lane b).setSession lane (x.settledIn s.tsu.hold b.isOpen)) where
  baskets h := basketsBounded_setBasket h (hb h)
  sessions h l hl := by
    rw [session_setSession, setSession_basket, basket_setBasket]
    split
    · exact Session.settled_settledIn s.tsu.hold b.isOpen x
    · exact h l hl

theorem keeps_settle (lane : Nat) : Keeps s (settle lane s) := by
  have h := keeps_writeLane s lane (s.session lane) (s.basket lane) fun h => bounded_basket h lane
  rwa [setBasket_self, ← settle_eq] at h

/-- A session written that settles as the one it replaces. -/
theorem keeps_setSession_same {lane : Nat} {x : Session} (hs : x.state = (s.session lane).state := by rfl)
    (hl : x.lockout = (s.session lane).lockout := by rfl) : Keeps s (s.setSession lane x) where
  sessions h l hmem := by
    rw [session_setSession, setSession_basket]
    split
    · rename_i hlane
      have hset := settled_of_sessionsSettled h hlane.2
      have hb : s.basket l = s.basket lane := by simp only [State.basket, hlane.1]
      rw [hb, hs, hl]
      exact hset
    · exact h l hmem

/-- A session written that is not present. -/
theorem keeps_setSession_away {lane : Nat} {x : Session} (hx : x.state.isPresent = false := by rfl) :
    Keeps s (s.setSession lane x) where
  sessions h l hmem := by
    rw [session_setSession, setSession_basket]
    split
    · exact fun hp => absurd (hx.symm.trans hp) (by decide)
    · exact h l hmem

/-- A basket written that stays open or closed. -/
theorem keeps_setBasket {lane : Nat} {b : Basket} (hb : s.basketsBounded → b.Bounded)
    (ho : b.isOpen = (s.basket lane).isOpen := by rfl) : Keeps s (s.setBasket lane b) where
  baskets h := basketsBounded_setBasket h (hb h)
  sessions h l hmem := by
    rw [setBasket_session, basket_setBasket]
    split
    · rename_i hlane
      have hb : s.basket l = s.basket lane := by simp only [State.basket, hlane.1]
      rw [ho, ← hb]
      exact h l hmem
    · exact h l hmem

theorem keeps_enterLost (lane : Nat) (r : LostReason) : Keeps s (enterLost lane r s) :=
  (keeps_setSession_away s).trans (keeps_report _ _)

theorem keeps_tsu {t : TillService} (hp : t.pollPeriod = s.tsu.pollPeriod := by rfl) (hw : t.window = s.tsu.window := by rfl)
    (hb : s.basketsBounded → ∀ b ∈ t.baskets.toList, b.Bounded := by exact id)
    (hs : s.sessionsSettled → State.sessionsSettled { s with tsu := t } := by exact id) : Keeps s { s with tsu := t } where
  baskets := hb
  sessions := hs
  settings := by
    simp only [State.settingsInRange, hp, hw]
    exact id

/-- After every lane has settled the sessions are sound, whatever they were (R44). -/
theorem sessionsSettled_settleAll : (settleAll s).sessionsSettled := fun lane hlane => by
  obtain ⟨ss, h, hs⟩ := settleAll_spec s
  have hl := mem_lanes_iff.mp hlane
  rw [hs lane (by omega), h]
  exact Session.settled_settledIn s.tsu.hold (s.basket lane).isOpen (s.session lane)

/-- The till block written, its settings kept, and then every lane settled. -/
theorem keeps_settleAll_tsu {t : TillService} (hp : t.pollPeriod = s.tsu.pollPeriod := by rfl) (hw : t.window = s.tsu.window := by rfl)
    (hb : s.basketsBounded → ∀ b ∈ t.baskets.toList, b.Bounded := by exact id) : Keeps s (settleAll { s with tsu := t }) := by
  have hset := sessionsSettled_settleAll { s with tsu := t }
  obtain ⟨ss, h, -⟩ := settleAll_spec { s with tsu := t }
  rw [h] at hset ⊢
  exact keeps_tsu s hp hw hb fun _ => hset

theorem keeps_holdLanes : Keeps s (holdLanes s) := keeps_settleAll_tsu s

theorem bounded_mixed {s : State} (h : s.basketsBounded) :
    ∀ b ∈ (s.tsu.baskets.map fun b => if b.isOpen then { b with mixed := true } else b).toList, b.Bounded := fun b hb => by
  simp only [Vector.mem_toList_iff, Vector.mem_map] at hb
  obtain ⟨a, ha, rfl⟩ := hb
  have := h a (Vector.mem_toList_iff.mpr ha)
  split <;> exact this

theorem mixed_basket (s : State) (lane : Nat) : State.basket lane
    { s with tsu := { s.tsu with baskets := s.tsu.baskets.map fun b => if b.isOpen then { b with mixed := true } else b } } =
      if (s.basket lane).isOpen then { s.basket lane with mixed := true } else s.basket lane := by
  simp only [State.basket, tget, Vector.getElem?_map]
  obtain hb | ⟨b, hb⟩ := Option.eq_none_or_eq_some s.tsu.baskets[lane - 1]?
  · simp only [hb]; rfl
  · simp only [hb]; rfl

theorem keeps_releaseLanes : Keeps s (releaseLanes s) := by
  unfold releaseLanes
  dsimp only
  split
  · exact keeps_settleAll_tsu s (hb := bounded_mixed)
  · rename_i hhold
    refine keeps_tsu s (hb := bounded_mixed) (hs := fun h lane hlane => ?_)
    have hopen : (State.basket lane { s with tsu := { s.tsu with
        baskets := s.tsu.baskets.map fun b => if b.isOpen then { b with mixed := true } else b } }).isOpen = (s.basket lane).isOpen := by
      rw [mixed_basket]; split <;> rfl
    have hset := h lane hlane
    rw [Bool.not_eq_true _ |>.mp hhold, ← hopen] at hset
    exact hset

/-! ### The Template Store (06) -/

theorem keeps_tps {t : TemplateStore} (h : (s.tps.slot 0).content.isSome = true → (s.tps.slot 0).permanence = some .permanent →
    (t.slot 0).content.isSome = true ∧ (t.slot 0).permanence = some .permanent) : Keeps s { s with tps := t } where
  base hb := h hb.1 hb.2

theorem keeps_walks (ws : List WalkEntry) : Keeps s { s with tps := { s.tps with walks := ws } } := {}

theorem slot_setSlot (n m : Nat) (x : TemplateSlot) (t : TemplateStore) :
    (t.setSlot n x).slot m = if n = m ∧ n < 64 then x else t.slot m := tget_tset ..

theorem keeps_cancel : Keeps s { s with tps := s.tps.cancel } := by
  refine keeps_tps s fun hc hp => ?_
  unfold TemplateStore.cancel
  cases s.tps.definition with
  | none => exact ⟨hc, hp⟩
  | some d =>
    change ((s.tps.setSlot d.slot _).slot 0).content.isSome = true ∧ ((s.tps.setSlot d.slot _).slot 0).permanence = _
    rw [slot_setSlot]
    split
    · rename_i hslot
      rw [hslot.1]; exact ⟨hc, hp⟩
    · exact ⟨hc, hp⟩

theorem keeps_cancelFor (n : Nat) : Keeps s (cancelFor n s) := by
  unfold cancelFor
  split
  · exact .ite (fun _ => keeps_cancel s) fun _ => .refl s
  · exact .refl s

theorem keeps_cancelAtCutover (n : Nat) : Keeps s (cancelAtCutover n s) := by
  unfold cancelAtCutover
  split
  · exact .ite (fun _ => (keeps_cancel s).trans (keeps_report _ _)) fun _ => .refl s
  · exact .refl s

theorem keeps_clearOverlay (n : Nat) : Keeps s (clearOverlay n s) := by
  unfold clearOverlay
  split
  · exact .refl s
  · exact .trans (t := { s with tps := { s.tps with overlays := tset s.tps.overlays n none } }) {}
      (keeps_onLrc (LabelRadio.keeps_overlayNotice ..))

theorem keeps_clearOverlaysOf (n : Nat) : Keeps s (clearOverlaysOf n s) := by
  refine .foldl (fun s i => ?_) _ s
  split
  · exact .ite (fun _ => keeps_clearOverlay ..) fun _ => .refl s
  · exact .refl s

theorem keeps_deleteSlot {n : Nat} (hn : n ≠ 0) : Keeps s (deleteSlot n s) := by
  have hempty (u : State) (x : TemplateSlot) : Keeps u { u with tps := u.tps.setSlot n x } :=
    keeps_tps u fun hc hp => by
      rw [slot_setSlot, if_neg fun h => hn h.1]
      exact ⟨hc, hp⟩
  unfold deleteSlot
  exact (((keeps_cancelFor s n).trans (hempty _ _)).trans (keeps_onLrc (.foldl (fun l a => LabelRadio.keeps_rebindNotice _ a l) _ _))).trans
    ((keeps_clearOverlaysOf _ n).trans (keeps_walks ..))

theorem keeps_stopWalks (n : Nat) : Keeps s (stopWalks n s) :=
  (keeps_walks s _).trans (.foldl (fun s _ => keeps_report s _) _ _)

theorem keeps_deleteTemporary : Keeps s (deleteTemporary s).1 := by
  have hstep (ns : List Nat) (acc : State × Nat × Nat) : Keeps acc.1 (ns.foldl (fun (acc : State × Nat × Nat) n =>
      if acc.1.tps.temporary n then
        let s := cancelAtCutover n (stopWalks n acc.1)
        (deleteSlot n s, acc.2.1 + 1, acc.2.2 + (s.lrc.onTemplate n).length)
      else acc) acc).1 := by
    induction ns generalizing acc with
    | nil => exact .refl _
    | cons n ns ih =>
      rw [List.foldl_cons]
      refine .trans ?_ (ih _)
      split
      · rename_i htemp
        have hn : n ≠ 0 := by
          simp only [TemplateStore.temporary, Bool.and_eq_true, bne_iff_ne] at htemp
          exact htemp.1.1
        exact ((keeps_stopWalks ..).trans (keeps_cancelAtCutover ..)).trans (keeps_deleteSlot _ hn)
      · exact .refl _
  exact hstep _ (s, 0, 0)

theorem keeps_endWalk : Keeps s (endWalk s) := by
  unfold endWalk
  split
  · exact .refl s
  · rename_i ws _
    exact (keeps_walks s ws).trans (keeps_report _ _)

theorem keeps_visitLabel (w : WalkEntry) (ws : List WalkEntry) (e : LabelEntry) : Keeps s (visitLabel w ws e s) := by
  unfold visitLabel
  exact (keeps_walks s _).trans (.ite (fun _ => keeps_onLrc (LabelRadio.keeps_cause ..)) fun _ => .refl _)

theorem keeps_templateWalk : Keeps s (templateWalk s) := by
  unfold templateWalk
  split
  · exact .refl s
  · split
    · exact keeps_endWalk s
    · exact .trans (keeps_visitLabel ..) (.ite (fun _ => keeps_endWalk _) fun _ => .refl _)

theorem keeps_begin (n now elapsed : Nat) : Keeps s { s with tps := s.tps.begin n now elapsed } := by
  refine keeps_tps s fun hc hp => ?_
  change ((s.tps.setSlot n _).slot 0).content.isSome = true ∧ ((s.tps.setSlot n _).slot 0).permanence = _
  rw [slot_setSlot]
  split
  · rename_i hslot
    rw [hslot.1]; exact ⟨hc, hp⟩
  · exact ⟨hc, hp⟩

theorem keeps_publish (d : Definition) : Keeps s { s with tps := s.tps.publish d } := by
  refine keeps_tps s fun hc hp => ?_
  change ((s.tps.setSlot d.slot _).slot 0).content.isSome = true ∧ ((s.tps.setSlot d.slot _).slot 0).permanence = _
  rw [slot_setSlot]
  split
  · rename_i hslot
    refine ⟨rfl, ?_⟩
    rw [hslot.1, TemplateSlot.publish, if_pos hc]
    exact hp
  · exact ⟨hc, hp⟩

theorem keeps_setPermanence {p : Permanence} {n : Nat} (h : n = 0 → p = .permanent) : Keeps s (setPermanence p n s).1 := by
  unfold setPermanence
  split
  · refine keeps_tps s fun hc hp => ?_
    rw [slot_setSlot]
    split
    · rename_i hslot
      rw [hslot.1]
      exact ⟨hc, congrArg some (h hslot.1)⟩
    · exact ⟨hc, hp⟩
  · exact .refl s

theorem keeps_setOverlay (a : OverlayArgs) : Keeps s (setOverlay a s) := by
  have hold : Keeps s (noticeOld (s.tps.overlay a.overlay) s) := by
    unfold noticeOld
    split
    · exact keeps_onLrc (LabelRadio.keeps_overlayNotice ..)
    · exact .refl s
  unfold setOverlay
  exact (hold.trans (t := noticeOld (s.tps.overlay a.overlay) s) {}).trans (keeps_onLrc (LabelRadio.keeps_overlayNotice ..))

theorem keeps_expireDefinition : Keeps s (expireDefinition s) := by
  unfold expireDefinition
  split
  · exact .refl s
  · exact .ite (fun _ => (keeps_cancel s).trans (keeps_report _ _)) fun _ => .refl s

/-! ### The Uplink Scheduler (09) -/

theorem keeps_uls {u : Uplink} (hq : (∀ c, (s.uls.queue c).frames.length ≤ c.capacity) → ∀ c, (u.queue c).frames.length ≤ c.capacity)
    (hd : u.day = s.uls.day := by rfl) (hn : u.night = s.uls.night := by rfl) : Keeps s { s with uls := u } where
  queues h := ⟨h.1, hq h.2⟩
  settings := by
    simp only [State.settingsInRange, hd, hn]
    exact id

theorem keeps_uls_beside {u : Uplink} (hq : ∀ c, u.queue c = s.uls.queue c := by intro c; cases c <;> rfl)
    (hd : u.day = s.uls.day := by rfl) (hn : u.night = s.uls.night := by rfl) : Keeps s { s with uls := u } :=
  keeps_uls s (fun h c => hq c ▸ h c) hd hn

theorem bounded_setQueue {u : Uplink} {c : UplinkClass} {q : ClassQueue} (hu : ∀ c, (u.queue c).frames.length ≤ c.capacity)
    (hq : q.frames.length ≤ c.capacity) (x : UplinkClass) : ((u.setQueue c q).queue x).frames.length ≤ x.capacity := by
  rw [queue_setQueue]
  split
  · rename_i hx
    rw [hx]; exact hq
  · exact hu x

theorem keeps_setQueue {c : UplinkClass} {q : ClassQueue}
    (h : (s.uls.queue c).frames.length ≤ c.capacity → q.frames.length ≤ c.capacity) :
    Keeps s { s with uls := s.uls.setQueue c q } :=
  keeps_uls s (fun hs => bounded_setQueue hs (h (hs c))) (by cases c <;> rfl) (by cases c <;> rfl)

theorem keeps_profileNotice (p : ProfileName) : Keeps s (profileNotice p s) :=
  keeps_uls_beside s

theorem keeps_reportPayDrop (n : Nat) : Keeps s (reportPayDrop n s) :=
  ((keeps_report s _).trans (keeps_logFault ..)).trans (keeps_uls_beside _)

theorem keeps_payDropped : Keeps s (payDropped s) := by
  unfold payDropped
  split
  · exact keeps_reportPayDrop ..
  · exact keeps_uls_beside _

theorem keeps_enqueueClass (c : UplinkClass) (f : UplinkFrame) : Keeps s (enqueueClass c f s) := by
  unfold enqueueClass
  split
  · rename_i hroom
    refine keeps_setQueue s fun _ => ?_
    have := of_decide_eq_true hroom
    simp only [ClassQueue.push, List.length_append, List.length_singleton]
    omega
  · exact .trans (keeps_setQueue s (q := (s.uls.queue c).drop) id) (.ite (fun _ => keeps_payDropped _) fun _ => .refl _)

theorem keeps_enqueueGuest (m : Bool) (f : UplinkFrame) : Keeps s (enqueueGuest m f s) := by
  unfold enqueueGuest
  split
  · exact (keeps_setQueue s (c := .guest) (q := s.uls.guest.drop) id).trans (keeps_uls_beside _)
  · exact keeps_enqueueClass ..

theorem keeps_sendHead (c : UplinkClass) (holder : SharedClass) (budget : Nat → Nat) : Keeps s (sendHead c holder budget s) := by
  cases hf : (s.uls.queue c).frames with
  | nil => rw [sendHead_nil hf]; exact .refl s
  | cons f rest =>
    rw [sendHead_cons hf]
    refine (keeps_out s { s.out with wan := some f }).trans (keeps_uls _ (fun h x => ?queues) ?day ?night)
    case queues =>
      have hc : (s.uls.queue c).frames.length ≤ c.capacity := h c
      rw [hf] at hc
      rw [queue_withTurn]
      exact bounded_setQueue h ((Nat.le_succ _).trans hc) x
    case day => cases c <;> rfl
    case night => cases c <;> rfl

theorem keeps_arbitrate : Keeps s (arbitrate s) := by
  obtain ⟨c, holder, budget, h⟩ := arbitrate_cases s
  rw [h]
  exact keeps_sendHead ..

theorem keeps_payDropEnds : Keeps s (payDropEnds s) := by
  unfold payDropEnds endPayDropInterval
  split
  · exact .refl s
  · exact .ite (fun _ => .ite (fun _ => keeps_reportPayDrop ..) fun _ => keeps_uls_beside _) fun _ => .refl s

end Sys2Proof.Machine
end

section
/-! What the operations of the exchange, the lanes, the guests and the traffic ports keep. -/
-- A theorem that uses a default proof of `Keeps` waits for all the theorems before it; elaborated one after another they need no threads of their own.
set_option Elab.async false

namespace Sys2Proof.Machine

variable (s : State)

/-! ### Baskets and the tills' timers (03) -/

theorem keeps_closeQuietly (lane : Nat) : Keeps s (closeQuietly lane s) := by
  rw [closeQuietly, settle_setBasket]
  exact keeps_writeLane s lane _ _ fun _ => Basket.bounded_nil rfl

theorem keeps_basketTillId (lane : Nat) : Keeps s (basketTillId lane s).2 := by
  unfold basketTillId
  split
  · exact .refl s
  · exact keeps_free s _

theorem keeps_appendAbandon (mem : MemFaults) (cause : AbandonCause) (lane : Nat) : Keeps s (appendAbandon mem cause lane s).1 := by
  have h (c : JournalContent) := (keeps_basketTillId s lane).trans (keeps_journalAppend _ mem c)
  unfold appendAbandon
  dsimp only
  split
  · rename_i heq
    have := h (.abandon (basketHeader lane (some (basketTillId lane s).1) (basketTillId lane s).2) cause
      ((basketTillId lane s).2.basket lane).lines)
    rwa [heq] at this
  · rename_i heq
    have := h (.abandon (basketHeader lane (some (basketTillId lane s).1) (basketTillId lane s).2) cause
      ((basketTillId lane s).2.basket lane).lines)
    rwa [heq] at this

theorem keeps_markAbandonDue (cause : AbandonCause) (lane : Nat) : Keeps s (markAbandonDue cause lane s) :=
  keeps_setBasket s fun h => bounded_basket h lane

/-- An abandon asked of the journal, and what follows its answer. -/
theorem keeps_abandon {mem : MemFaults} {cause : AbandonCause} {lane : Nat} {f g : State → State} (hf : ∀ s, Keeps s (f s))
    (hg : ∀ s, Keeps s (g s)) : Keeps s (match appendAbandon mem cause lane s with | (s, true) => f s | (s, false) => g s) := by
  have h := keeps_appendAbandon s mem cause lane
  split
  · rename_i heq
    rw [heq] at h
    exact h.trans (hf _)
  · rename_i heq
    rw [heq] at h
    exact h.trans (hg _)

theorem keeps_restartAbandon (mem : MemFaults) (lane : Nat) : Keeps s (restartAbandon mem lane s) := by
  unfold restartAbandon
  exact .ite (fun _ => keeps_abandon s (fun s => keeps_closeQuietly s lane) fun s => keeps_markAbandonDue s .restart lane) fun _ => .refl s

/-! ### The cutover and the walks (10) -/

theorem keeps_sendDatagram (d : Datagram) : Keeps s (sendDatagram d s) := by
  unfold sendDatagram
  split
  · exact .refl s
  · exact keeps_enqueueClass ..

theorem keeps_sendHello : Keeps s (sendHello s) := by
  unfold sendHello
  exact (keeps_sendDatagram ..).trans (keeps_onSession _ _)

theorem keeps_sendBack : Keeps s (sendBack s) := keeps_sendDatagram ..

theorem keeps_strayed : Keeps s (strayed s) := keeps_onSession ..

theorem keeps_sendBlock (mem : MemFaults) (k : Nat) : Keeps s (sendBlock mem k s) := by
  have h := keeps_blockRead s mem (s.xce.session.blockStart k) s.xce.session.blockSize
  unfold sendBlock
  split
  · rename_i heq
    rw [heq] at h
    exact h.trans (keeps_sendDatagram ..)
  · rename_i heq
    rwa [heq] at h

theorem keeps_sendNextBlock (mem : MemFaults) : Keeps s (sendNextBlock mem s) := by
  unfold sendNextBlock
  exact (keeps_sendBlock ..).trans (keeps_onSession _ _)

theorem keeps_openLimit : Keeps s (openLimit s) := keeps_jnl ..

theorem keeps_clearLimit : Keeps s (clearLimit s) := keeps_jnl ..

theorem keeps_sendBlocks (mem : MemFaults) (fuel : Nat) : Keeps s (sendBlocks mem fuel s) := by
  induction fuel generalizing s with
  | zero => exact .refl s
  | succ fuel ih => exact .ite (fun _ => (keeps_sendNextBlock ..).trans (ih _)) fun _ => .refl s

theorem keeps_resendBlocks (mem : MemFaults) : Keeps s (resendBlocks mem s) := .foldl (fun s k => keeps_sendBlock s mem k) _ s

theorem keeps_enterDownload : Keeps s (enterDownload s) :=
  ((keeps_clearLimit s).trans (keeps_onSession _ _)).trans (keeps_sendBack _)

theorem keeps_copyBlockSize : Keeps s (copyBlockSize s).2 := by
  unfold copyBlockSize
  split
  · exact .refl s
  · exact keeps_free s _

theorem keeps_enterUpload (mem : MemFaults) : Keeps s (enterUpload mem s) := by
  have h := (keeps_profileNotice s .night).trans (keeps_copyBlockSize _)
  unfold enterUpload
  dsimp only
  refine .trans ((h.trans (keeps_openLimit _)).trans (keeps_onSession _ _)) (.ite (fun _ => keeps_enterDownload _) fun _ => keeps_sendBlocks ..)

theorem keeps_tryStaging : Keeps s (tryStaging s) := by
  unfold tryStaging
  exact .ite (fun _ => .trans (keeps_onSession s _) {}) fun _ => .refl s

theorem keeps_advanceEpoch : Keeps s (advanceEpoch s) := by
  unfold advanceEpoch
  exact .ite (fun _ => .refl s) fun _ => .trans (keeps_onCutover s _) {}

theorem keeps_finishCutover : Keeps s (finishCutover s) := by
  unfold finishCutover
  dsimp only
  exact (((((keeps_advanceEpoch s).trans (keeps_deleteTemporary _)).trans (keeps_releaseLanes _)).trans (keeps_report _ _)).trans
    (keeps_onCutover _ _)).trans (keeps_tryStaging _)

theorem keeps_proceedDrain : Keeps s (proceedDrain s) := by
  unfold proceedDrain
  exact .ite (fun _ => .ite (fun _ => keeps_onCutover ..) fun _ => keeps_finishCutover s) fun _ => .refl s

theorem keeps_endDrain (how : DrainEnd) : Keeps s (endDrain how s) := by
  unfold endDrain
  exact .ite (fun _ => (keeps_onCutover s _).trans (keeps_proceedDrain _)) fun _ => .refl s

theorem keeps_drainEmpty : Keeps s (drainEmpty s) := by
  unfold drainEmpty
  exact .ite (fun _ => keeps_endDrain ..) fun _ => .refl s

theorem keeps_closeBasket (lane : Nat) : Keeps s (closeBasket lane s) := (keeps_closeQuietly ..).trans (keeps_drainEmpty _)

theorem keeps_startCutover (tag limit : Nat) : Keeps s (startCutover tag limit s) :=
  ((keeps_onCutover s _).trans (keeps_holdLanes _)).trans (keeps_drainEmpty _)

theorem keeps_scheduleDue : Keeps s (scheduleDue s) := by
  unfold scheduleDue
  dsimp only
  split
  · exact .ite (fun _ => keeps_startCutover ..) fun _ => .refl s
  · exact .refl s

theorem keeps_serving (b : Bool) : Keeps s { s with tsu := { s.tsu with serving := b } } := keeps_tsu s

theorem keeps_serveTills (mem : MemFaults) : Keeps s (serveTills mem s) :=
  ((Keeps.foldl (fun s l => keeps_restartAbandon s mem l) lanes s).trans (keeps_serving _ true)).trans (keeps_drainEmpty _)

theorem keeps_serveIfFree (mem : MemFaults) : Keeps s (serveIfFree mem s) := by
  unfold serveIfFree
  exact .ite (fun _ => keeps_serveTills ..) fun _ => .refl s

theorem keeps_logFailure (r : FailReason) : Keeps s (logFailure r s) := by
  unfold logFailure
  split
  · exact keeps_logFault ..
  · exact .refl s

theorem keeps_idleFailed (r : FailReason) (arose : ExchangeState) : Keeps s (idleFailed r arose s) :=
  .trans (t := enterIdle s) {} (keeps_report _ _)

theorem keeps_leaveByFailure (st : ExchangeState) : Keeps s (leaveByFailure st s) := by
  unfold leaveByFailure
  split
  · exact (keeps_clearLimit s).trans (keeps_profileNotice ..)
  · exact keeps_profileNotice ..
  · exact .refl s

theorem keeps_failSession (r : FailReason) : Keeps s (failSession r s) := by
  unfold failSession
  split
  · exact .refl s
  · exact .refl s
  · exact ((keeps_logFailure s r).trans (keeps_onSession _ _)).trans (keeps_setWalk _ _)
  · exact ((keeps_logFailure s r).trans (keeps_leaveByFailure ..)).trans (keeps_idleFailed ..)

theorem keeps_enterVerify : Keeps s (enterVerify s) := by
  refine .trans ((keeps_onSession s fun x => { x with state := .verify, partDue := none, backDue := none }).trans
    (keeps_profileNotice _ .day)) ?_
  unfold enterVerify
  dsimp only
  split
  · exact .ite (fun _ => keeps_tryStaging _) fun _ => keeps_failSession ..
  · exact .refl _

theorem keeps_closeSession : Keeps s (closeSession s) :=
  (((keeps_sendDatagram ..).trans (keeps_report _ _)).trans (u := enterIdle _) {}).trans (keeps_proceedDrain _)

theorem keeps_endStaging : Keeps s (endStaging s) :=
  .trans (t := { s with
    itb := { s.itb with pendingBatch := s.xce.stagingBatch }
    xce := { s.xce with stagingBatch := none, walk := none } }) {} (keeps_closeSession _)

theorem keeps_beginPass2 : Keeps s (beginPass2 s) := by
  unfold beginPass2
  exact .ite (fun _ => keeps_endStaging s) fun _ => keeps_setWalk ..

theorem keeps_pass1Step (mem : MemFaults) (pos : Option Nat) : Keeps s (pass1Step mem pos s) := by
  unfold pass1Step
  split
  · exact keeps_beginPass2 s
  · exact (keeps_visitPending ..).trans (.ite (fun _ => keeps_beginPass2 _) fun _ => keeps_setWalk ..)

theorem keeps_setPending (mem : MemFaults) (code : Nat) (k : PendingKind) : Keeps s (setPending mem code k s) := by
  refine (keeps_checkItem s mem code).trans ?_
  unfold setPending
  dsimp only
  split
  · exact keeps_putItem ‹_›
  · exact .refl _

theorem keeps_installChange (mem : MemFaults) (c : RawChange) : Keeps s (installChange mem c s).1 := by
  unfold installChange
  split
  · exact .refl s
  · rename_i hcode
    split
    case h_3 =>
      split
      · exact keeps_putItem_new ‹_› (by simpa [ItemRecord.fresh] using hcode) (sound_fresh ..)
      · exact .refl s
    case h_5 => exact keeps_setPending ..
    case h_6 => exact keeps_setPending ..
    case h_8 => exact keeps_setPending ..
    all_goals exact .refl s

theorem keeps_pass2Step (mem : MemFaults) (i : Nat) : Keeps s (pass2Step mem i s) := by
  unfold pass2Step
  split
  · exact keeps_endStaging s
  · exact ((keeps_installChange ..).trans (keeps_onSession _ _)).trans (.ite (fun _ => keeps_endStaging _) fun _ => keeps_setWalk ..)

theorem keeps_endAbort (mem : MemFaults) : Keeps s (endAbort mem s) := by
  have hidle (u : State) (r : FailReason) (st : ExchangeState) :
      Keeps u (if u.xce.session.state = .aborting then idleFailed r st u else u) :=
    .ite (fun _ => keeps_idleFailed ..) fun _ => .refl u
  unfold endAbort
  refine .trans (t := { s with xce := { s.xce with stagingBatch := none, walk := none } }) {} ?_
  exact (((hidle _ _ _).trans (keeps_serveIfFree ..)).trans (keeps_proceedDrain _)).trans (keeps_tryStaging _)

theorem keeps_abortStep (mem : MemFaults) (pos : Option Nat) : Keeps s (abortStep mem pos s) := by
  unfold abortStep
  split
  · exact keeps_endAbort ..
  · exact (keeps_visitPending ..).trans (.ite (fun _ => keeps_endAbort ..) fun _ => keeps_setWalk ..)

theorem keeps_applyRecord (mem : MemFaults) (code : Nat) : Keeps s (applyRecord mem code s) := by
  unfold applyRecord
  refine (keeps_checkItem s mem code).trans (.trans ?_ (keeps_onCutover _ _))
  split
  · rename_i r hr
    have hr' : (checkItem mem code s).item r.code = some r := by rwa [item_code hr]
    split
    · exact .ite (fun _ => (keeps_promote mem _ hr').trans (keeps_onCutover _ _)) fun _ => .refl _
    · exact .refl _
  · exact .refl _

theorem keeps_applyStep (mem : MemFaults) : Keeps s (applyStep mem s) := by
  unfold applyStep
  split
  · exact (keeps_finishCutover s).trans (keeps_serveIfFree ..)
  · exact (keeps_applyRecord ..).trans (.ite (fun _ => (keeps_finishCutover _).trans (keeps_serveIfFree ..)) fun _ => .refl _)

/-! ### Head office's datagrams, and the session's timers (10) -/

theorem keeps_openSession (tag : Nat) (branch : Text) : Keeps s (openSession tag branch s) := by
  unfold openSession
  refine .trans (t := { s with xce := { s.xce with
    counter := next16 s.xce.counter, session := .opened (next16 s.xce.counter) branch tag s.zfw.exchangePeer } }) {} ?_
  exact .ite (fun _ => keeps_failSession ..) fun _ => keeps_sendHello _

theorem keeps_datagram {number : Nat} {takes : ExchangeState → Bool} {f : State → State} (hf : ∀ s, Keeps s (f s)) :
    Keeps s (datagram number takes f s) := by
  unfold datagram
  exact .ite (fun _ => hf s) fun _ => keeps_strayed s

theorem keeps_acknowledgeBlock (n : Nat) (mem : MemFaults) : Keeps s (acknowledgeBlock n mem s) := by
  unfold acknowledgeBlock
  exact ((keeps_onSession s _).trans (keeps_acknowledge ..)).trans (.ite (fun _ => keeps_enterDownload _) fun _ => keeps_sendBlocks ..)

theorem keeps_judgeJack (n : Nat) (mem : MemFaults) : Keeps s (judgeJack n mem s) := by
  unfold judgeJack
  exact .ite (fun _ => keeps_strayed s) fun _ => .ite (fun _ => .refl s) fun _ => keeps_acknowledgeBlock ..

theorem keeps_judgeHeader (h : BatchHeader) : Keeps s (judgeHeader h s) := by
  unfold judgeHeader firstHeader
  split
  · refine .ite (fun _ => keeps_failSession ..) fun _ => .ite (fun _ => keeps_failSession ..) fun _ => ?_
    exact .trans ((keeps_onSession s _).trans (keeps_sendBack _)) (.ite (fun _ => keeps_enterVerify _) fun _ => .refl _)
  · exact .ite (fun _ => keeps_sendBack s) fun _ => keeps_strayed s

theorem keeps_judgePart (part : Nat) (es : List RawChange) (last : Bool) : Keeps s (judgePart part es last s) := by
  unfold judgePart
  split
  · exact (keeps_strayed s).trans (keeps_sendBack _)
  · refine .ite (fun _ => .trans (t := joinPart part es s) ?_ ?_) fun _ => keeps_sendBack s
    · exact .trans (t := { s with xce := { s.xce with staging := s.xce.staging ++ es } }) {}
        ((keeps_onSession _ _).trans (keeps_sendBack _))
    · unfold judgeCount
      exact .ite (fun _ => keeps_failSession ..) fun _ => .ite (fun _ => .ite (fun _ => keeps_enterVerify _) fun _ => keeps_failSession ..)
        fun _ => .refl _

theorem keeps_takeAccept (n : Nat) (mem : MemFaults) : Keeps s (takeAccept n mem s) := keeps_datagram s fun s => keeps_enterUpload s mem

theorem keeps_takeJack (n k : Nat) (mem : MemFaults) : Keeps s (takeJack n k mem s) := keeps_datagram s fun s => keeps_judgeJack s k mem

theorem keeps_takeBhead (n : Nat) (h : BatchHeader) : Keeps s (takeBhead n h s) := keeps_datagram s fun s => keeps_judgeHeader s h

theorem keeps_takeBpart (n part : Nat) (es : List RawChange) (last : Bool) : Keeps s (takeBpart n part es last s) :=
  keeps_datagram s fun s => keeps_judgePart s part es last

theorem keeps_takeAbort (n : Nat) : Keeps s (takeAbort n s) := keeps_datagram s fun s => keeps_failSession s _

theorem keeps_runDatagram (c : Instr) : Keeps s (runDatagram c s) := by
  unfold runDatagram
  split
  · exact keeps_takeAccept ..
  · exact keeps_takeJack ..
  · exact keeps_takeBhead ..
  · exact keeps_takeBpart ..
  · exact keeps_takeAbort ..
  · exact keeps_strayed s

theorem keeps_helloExpires : Keeps s (helloExpires s) := by
  unfold helloExpires
  exact .ite (fun _ => .ite (fun _ => keeps_sendHello s) fun _ => keeps_failSession ..) fun _ => .refl s

theorem keeps_uploadExpires (mem : MemFaults) : Keeps s (uploadExpires mem s) := by
  unfold uploadExpires
  exact .ite (fun _ => .ite (fun _ => (keeps_onSession s _).trans (keeps_resendBlocks ..)) fun _ => keeps_failSession ..) fun _ => .refl s

theorem keeps_backAgain : Keeps s (backAgain s) := by
  unfold backAgain
  exact .ite (fun _ => (keeps_onSession s _).trans (keeps_sendBack _)) fun _ => .refl s

theorem keeps_partExpires : Keeps s (partExpires s) := by
  unfold partExpires
  exact .ite (fun _ => keeps_failSession ..) fun _ => .refl s

theorem keeps_drainExpires : Keeps s (drainExpires s) := by
  unfold drainExpires
  exact .ite (fun _ => keeps_endDrain ..) fun _ => .refl s

theorem keeps_stagingPass1 (mem : MemFaults) : Keeps s (stagingPass1 mem s) := by
  unfold stagingPass1
  split
  · exact keeps_pass1Step ..
  · exact .refl s

theorem keeps_stagingPass2 (mem : MemFaults) : Keeps s (stagingPass2 mem s) := by
  unfold stagingPass2
  split
  · exact keeps_pass2Step ..
  · exact .refl s

theorem keeps_abortWalk (mem : MemFaults) : Keeps s (abortWalk mem s) := by
  unfold abortWalk
  split
  · exact keeps_abortStep ..
  · exact .refl s

theorem keeps_applyWalk (mem : MemFaults) : Keeps s (applyWalk mem s) := by
  unfold applyWalk
  exact .ite (fun _ => keeps_applyStep ..) fun _ => .refl s

/-! ### Till requests and timers (03) -/

theorem keeps_setRoster (lane : Nat) (e : RosterEntry) : Keeps s (setRoster lane e s) := by
  unfold setRoster
  exact .trans (keeps_tsu s) (.ite (fun _ => keeps_enterLost ..) fun _ => .refl _)

theorem keeps_setLockout (b : Bool) (lane : Nat) : Keeps s (setLockout b lane s) := by
  rw [setLockout, settle_setSession]
  have h := keeps_writeLane s lane { s.session lane with lockout := b } (s.basket lane) fun h => bounded_basket h lane
  rwa [setBasket_self] at h

theorem keeps_expireWindow (mem : MemFaults) (lane : Nat) : Keeps s (expireWindow mem lane s) := by
  unfold expireWindow
  refine .trans (.ite (fun _ => ?_) fun _ => .refl s) (keeps_setSession_away _)
  exact keeps_abandon s (fun s => keeps_closeBasket s lane) fun s => keeps_markAbandonDue s .reconnectExpired lane

theorem keeps_judgeWindow (mem : MemFaults) (lane : Nat) : Keeps s (judgeWindow mem lane s) := by
  unfold judgeWindow
  exact .ite (fun _ => keeps_expireWindow ..) fun _ => .refl s

theorem keeps_pollIfDue (lane : Nat) : Keeps s (pollIfDue lane s) := by
  unfold pollIfDue takePoll
  refine .ite (fun _ => .ite (fun _ => (keeps_setSession_same s).trans (keeps_enterLost ..)) fun _ => ?_) fun _ => .refl s
  refine .trans (keeps_setSession_same s (lane := lane) (x := { s.session lane with
    missed := (s.session lane).missedAt, polled := true, heard := false, seenOwed := false
    nextPoll := some (s.elapsed + s.tsu.pollPeriod) })) ?_
  dsimp only
  split
  · exact keeps_sendLane ..
  · exact .refl _

theorem keeps_retryAbandon (mem : MemFaults) (lane : Nat) : Keeps s (retryAbandon mem lane s) :=
  keeps_abandon s (fun s => keeps_closeBasket s lane) fun s => keeps_markAbandonDue s _ lane

end Sys2Proof.Machine
end

section
/-! What lane messages, guest sessions, frames and the radio keep. -/
-- A theorem that uses a default proof of `Keeps` waits for all the theorems before it; elaborated one after another they need no threads of their own.
set_option Elab.async false

namespace Sys2Proof.Machine

variable (s : State)

/-! ### The lane protocol (03) -/

theorem keeps_countMalformed : Keeps s (countMalformed s) := keeps_tsu s

theorem keeps_countForeign (lane : Nat) : Keeps s (countForeign lane s) := keeps_setSession_same s

theorem keeps_whileRunning {f : State → State} (hf : ∀ s, Keeps s (f s)) : Keeps s (whileRunning f s) := by
  unfold whileRunning
  exact .ite (fun _ => hf s) fun _ => .refl s

theorem keeps_laneFrame {lane : Nat} {f : State → State} (hf : ∀ s, Keeps s (f s)) : Keeps s (laneFrame lane f s) :=
  keeps_whileRunning s fun s => .ite (fun _ => .ite (fun _ => hf s) fun _ => keeps_countMalformed s) fun _ => .refl s

theorem keeps_admitTill (src : HwAddr) (lane : Nat) (t : Text) : Keeps s (admitTill src lane t s) := by
  unfold admitTill
  refine .trans ?_ (keeps_sendLane ..)
  rw [settle_writes, setSession_basket]
  exact keeps_writeLane s lane _ _ fun h => bounded_basket h lane

theorem keeps_joinLane (src : HwAddr) (lane : Nat) (t : Text) : Keeps s (joinLane src lane t s) := by
  have hrefuse (code : Nat) (d : FaultDetail) : Keeps s (refuseJoin src lane code d s) := (keeps_sendLane s ..).trans (keeps_logFault ..)
  unfold joinLane
  exact .ite (fun _ => hrefuse ..) fun _ => .ite (fun _ => keeps_sendLane ..) fun _ => .ite (fun _ => keeps_admitTill ..) fun _ => hrefuse ..

theorem keeps_statusLane (src : HwAddr) (lane : Nat) (i : Indications) : Keeps s (statusLane src lane i s) := by
  unfold statusLane recordStatus
  refine .ite (fun _ => .ite (fun _ => ?_) fun _ => keeps_countForeign ..) fun _ => .refl s
  refine .trans (keeps_setSession_same s (lane := lane) (x := { s.session lane with
    missed := 0, lastStatus := some i, heard := true, service := (s.session lane).service || i.service })) ?_
  exact .ite (fun _ => keeps_report ..) fun _ => .refl _

theorem keeps_numbered {src : HwAddr} {lane msg : Nat} {ok : Bool} {f : State → State × LaneMessage} (hf : ∀ s, Keeps s (f s).1) :
    Keeps s (numbered src lane msg ok f s) := by
  unfold numbered
  refine .ite (fun _ => keeps_sendLane ..) fun _ => .ite (fun _ => keeps_countForeign ..) fun _ => ?_
  split
  · exact keeps_sendLane ..
  · exact .ite (fun _ => ((hf s).trans (keeps_setSession_same _)).trans (keeps_sendLane ..)) fun _ => keeps_sendLane ..

theorem keeps_onBasket {lane msg : Nat} {f : Basket → State → State × LaneMessage} (hf : ∀ s, Keeps s (f (s.basket lane) s).1) :
    Keeps s (onBasket lane msg f s).1 := by
  unfold onBasket
  split
  · exact .refl s
  · split
    · exact hf s
    · exact .refl s

theorem keeps_openLane (lane msg : Nat) : Keeps s (openLane lane msg s).1 := by
  unfold openLane
  split
  · dsimp only
    rw [settle_setBasket]
    exact keeps_writeLane s lane _ _ fun _ => Basket.bounded_nil rfl
  all_goals exact .refl s

theorem runningTotal_append (ls : List Line) (l : Line) (h : l.voided = false) :
    runningTotal (ls ++ [l]) = runningTotal ls + l.amount := by
  simp [runningTotal, List.filter_append, h]

/-- An accepted line answer leaves the basket within its limit (R33). -/
theorem withinBasket_of_computeLine {c : PriceRecord} {v q r : Nat} {p : Option Previous} {a : LineAnswer}
    (h : computeLine c v p q r = .ok a) : r + a.amount ≤ maxAmount := by
  obtain ⟨-, -, hmax, rfl⟩ := computeLine_eq_ok_iff.mp h
  exact hmax

theorem withinBasket_of_computeOpenLine {k q r : Nat} {a : LineAnswer} (h : computeOpenLine k q r = .ok a) : r + a.amount ≤ maxAmount := by
  unfold computeOpenLine at h
  split at h
  · split at h
    · obtain ⟨hmax, rfl⟩ := withinBasket_eq_ok_iff.mp h
      exact hmax
    · cases h
  · cases h

theorem keeps_priceLine {lane msg code q band : Nat} {answer : Except TillRefusal LineAnswer}
    (h : ∀ a, answer = .ok a → runningTotal (s.basket lane).lines + a.amount ≤ maxAmount) :
    Keeps s (priceLine lane msg code q band answer (s.basket lane) s).1 := by
  unfold priceLine
  split
  · exact .refl s
  · rename_i hlen
    split
    · refine keeps_setBasket s fun _ => ⟨?_, ?_⟩
      · simp only [List.length_append, List.length_singleton]; omega
      · rw [runningTotal_append _ _ rfl]
        exact h _ rfl
    · exact .refl s

theorem keeps_askLine (mem : MemFaults) (lane msg code q : Nat) (keyed : Option Nat) :
    Keeps s (askLine mem lane msg code q keyed (s.basket lane) s).1 := by
  have hread : Keeps s (askRead mem code s) := .ite (fun _ => keeps_checkItem ..) fun _ => .refl s
  have hbasket : s.basket lane = (askRead mem code s).basket lane := by
    unfold askRead
    split
    · obtain ⟨its, m, h, -⟩ := checkItem_frame mem code s
      rw [h]; rfl
    · rfl
  refine hread.trans ?_
  unfold askLine
  rw [hbasket]
  split
  · unfold askKnown
    split
    · split
      · exact .refl _
      · exact keeps_priceLine _ fun _ => withinBasket_of_computeLine
    · exact .refl _
  · unfold askUnknown
    split
    · exact .refl _
    · exact .refl _
    · exact keeps_priceLine _ fun _ => withinBasket_of_computeOpenLine

/-- Voiding takes an amount out of the running total, and puts none in. -/
theorem runningTotal_voidAt_le (n : Nat) (ls : List Line) : runningTotal (voidAt n ls) ≤ runningTotal ls := by
  induction ls with
  | nil => exact Nat.le_refl _
  | cons l ls ih =>
    simp only [runningTotal, voidAt, List.map_cons] at ih ⊢
    by_cases hn : l.number = n
    · simp only [hn, if_true, List.filter_cons, Bool.not_true]
      cases l.voided <;> simp <;> omega
    · simp only [hn, if_false, List.filter_cons]
      cases l.voided <;> simp <;> omega

theorem keeps_voidLine (lane msg line : Nat) : Keeps s (voidLine lane msg line (s.basket lane) s).1 := by
  unfold voidLine
  split
  · exact .refl s
  · refine keeps_setBasket s fun h => ⟨?_, (runningTotal_voidAt_le _ _).trans (bounded_basket h lane).2⟩
    simp only [voidAt, List.length_map]
    exact (bounded_basket h lane).1

/-- The journal is asked for a record, and the basket closes where it is taken. -/
theorem keeps_appendClose {mem : MemFaults} {c : JournalContent} {lane : Nat} {f : Nat → LaneMessage} {m : LaneMessage} :
    Keeps s (match journalAppend mem c s with | (s', some n) => (closeBasket lane s', f n) | (s', none) => (s', m)).1 := by
  have h := keeps_journalAppend s mem c
  split
  · rename_i heq
    rw [heq] at h
    exact h.trans (keeps_closeBasket ..)
  · rename_i heq
    rwa [heq] at h

theorem keeps_closeLane (mem : MemFaults) (lane msg : Nat) (t : Tender) (b : Basket) : Keeps s (closeLane mem lane msg t b s).1 :=
  keeps_appendClose s

theorem keeps_cancelLane (mem : MemFaults) (lane msg : Nat) (b : Basket) : Keeps s (cancelLane mem lane msg b s).1 :=
  keeps_appendClose s (f := fun _ => lineZero lane msg b.sequence)

theorem keeps_joinFrame (src : HwAddr) (lane : Nat) (t : Text) : Keeps s (joinFrame src lane t s) :=
  keeps_laneFrame s fun s => keeps_joinLane s src lane t

theorem keeps_statusFrame (src : HwAddr) (lane : Nat) (i : Indications) : Keeps s (statusFrame src lane i s) :=
  keeps_laneFrame s fun s => keeps_statusLane s src lane i

theorem keeps_openFrame (src : HwAddr) (lane msg : Nat) : Keeps s (openFrame src lane msg s) :=
  keeps_laneFrame s fun s => keeps_numbered s fun s => keeps_openLane s lane msg

theorem keeps_askFrame (src : HwAddr) (lane msg code q : Nat) (k : Option Nat) (mem : MemFaults) :
    Keeps s (askFrame src lane msg code q k mem s) :=
  keeps_laneFrame s fun s => keeps_numbered s fun s => keeps_onBasket s fun s => keeps_askLine s mem lane msg code q k

theorem keeps_voidFrame (src : HwAddr) (lane msg line : Nat) : Keeps s (voidFrame src lane msg line s) :=
  keeps_laneFrame s fun s => keeps_numbered s fun s => keeps_onBasket s fun s => keeps_voidLine s lane msg line

theorem keeps_closeFrame (src : HwAddr) (lane msg t : Nat) (mem : MemFaults) : Keeps s (closeFrame src lane msg t mem s) :=
  keeps_laneFrame s fun s => keeps_numbered s fun s => keeps_onBasket s fun s => keeps_closeLane s mem lane msg _ _

theorem keeps_cancelFrame (src : HwAddr) (lane msg : Nat) (mem : MemFaults) : Keeps s (cancelFrame src lane msg mem s) :=
  keeps_laneFrame s fun s => keeps_numbered s fun s => keeps_onBasket s fun s => keeps_cancelLane s mem lane msg _

theorem keeps_malformedFrame : Keeps s (malformedFrame s) :=
  keeps_whileRunning s fun s => .ite (fun _ => keeps_countMalformed s) fun _ => .refl s

theorem keeps_runLane (c : Instr) : Keeps s (runLane c s) := by
  unfold runLane
  split
  · exact keeps_joinFrame ..
  · exact keeps_statusFrame ..
  · exact keeps_openFrame ..
  · exact keeps_askFrame ..
  · exact keeps_voidFrame ..
  · exact keeps_closeFrame ..
  · exact keeps_cancelFrame ..
  · exact keeps_malformedFrame s

/-! ### Guest sessions (08) -/

theorem keeps_gat {g : GuestTable} (ho : s.guestsOrdered → (g.sessions.Pairwise fun a b => a.key < b.key) ∧ g.sessions.length ≤ 512 := by exact id)
    (hi : g.idleLimit = s.gat.idleLimit := by rfl) : Keeps s { s with gat := g } where
  guests := ho
  settings := by
    simp only [State.settingsInRange, hi]
    exact id

theorem mem_of_guest {s : State} {hw : HwAddr} {g : GuestSession} (h : s.guest hw = some g) : g ∈ s.gat.sessions :=
  List.mem_of_find?_eq_some h

theorem guest_hw {s : State} {hw : HwAddr} {g : GuestSession} (h : s.guest hw = some g) : g.hw = hw :=
  BitVec.eq_of_toNat_eq (findKey_key GuestSession.key h)

/-- A session written over one of the same device. -/
theorem keeps_putGuest {s : State} {g g' : GuestSession} (hg : g ∈ s.gat.sessions) (hk : g'.hw = g.hw := by rfl) : Keeps s (s.putGuest g') :=
  keeps_gat s fun h => by
    obtain ⟨x, hx⟩ := Option.isSome_iff_exists.mp (List.find?_isSome (p := fun y => GuestSession.key y == g'.key) |>.mpr
      ⟨g, hg, by simp [GuestSession.key, hk]⟩)
    exact ⟨putKey_sorted _ _ _ h.1, (putKey_length_of_held _ _ _ h.1 hx).trans_le h.2⟩

/-- A session of a new device where there is a free place. -/
theorem keeps_putGuest_new {s : State} (g : GuestSession) (hlen : s.guestsOrdered → s.gat.sessions.length < 512) : Keeps s (s.putGuest g) :=
  keeps_gat s fun h => ⟨putKey_sorted _ _ _ h.1, (putKey_length_le _ _ _).trans (hlen h)⟩

theorem keeps_dropGuest (hw : HwAddr) : Keeps s (s.dropGuest hw) :=
  keeps_gat s fun h => ⟨dropKey_sorted _ _ _ h.1, (dropKey_length_le _ _ _).trans h.2⟩

/-- Sessions changed in place, each its device's. -/
theorem keeps_mapGuests {f : GuestSession → GuestSession} (hf : ∀ g, (f g).hw = g.hw) :
    Keeps s { s with gat := { s.gat with sessions := s.gat.sessions.map f } } :=
  keeps_gat s fun h => ⟨List.pairwise_map.mpr (h.1.imp fun {a b} hab => by simpa only [GuestSession.key, hf] using hab), by simpa using h.2⟩

/-- An ordered table that lets a session of its own go has a free place. -/
theorem dropGuest_length {s : State} {g : GuestSession} (hg : g ∈ s.gat.sessions) (h : s.guestsOrdered) :
    (s.dropGuest g.hw).gat.sessions.length < 512 := by
  refine Nat.lt_of_lt_of_le ?_ h.2
  exact List.length_filter_lt_length_iff_exists.mpr ⟨g, hg, by simp [GuestSession.key]⟩

/-- Room made, and a new session in it. -/
theorem keeps_makeRoom_putGuest {s t : State} (h : makeRoom s = some t) (g : GuestSession) : Keeps s (t.putGuest g) := by
  rcases makeRoom_cases h with ⟨hlen, rfl⟩ | ⟨x, hx, rfl⟩
  · exact keeps_putGuest_new g fun _ => hlen
  · exact keeps_gat s fun h => ⟨putKey_sorted _ _ _ (dropKey_sorted _ _ _ h.1),
      (putKey_length_le _ _ _).trans (dropGuest_length (candidate_cases hx).1 h)⟩

theorem keeps_guestFullDrop (hw : HwAddr) : Keeps s (guestFullDrop hw s) := by
  unfold guestFullDrop
  exact (keeps_guestDrop s .full).trans (.ite (fun _ => (keeps_gat _).trans (keeps_report _ _)) fun _ => .refl _)

/-- The session found or made for a device stands in the table. -/
theorem keeps_guestFor (hw : HwAddr) : Keeps s (guestFor hw s).1 ∧ ∀ g, (guestFor hw s).2 = some g → g ∈ (guestFor hw s).1.gat.sessions := by
  unfold guestFor
  split
  · rename_i g hg
    split
    · exact ⟨keeps_putGuest (mem_of_guest hg), fun _ h => Option.some.inj h ▸ mem_of_guest (putGuest_guest s (g.reset s.now))⟩
    · exact ⟨.refl s, fun _ h => Option.some.inj h ▸ mem_of_guest hg⟩
  · split
    · exact ⟨keeps_guestFullDrop .., fun _ h => nomatch h⟩
    · exact ⟨keeps_makeRoom_putGuest ‹_› _, fun _ h => Option.some.inj h ▸ mem_of_guest (putGuest_guest _ (GuestSession.fresh hw _))⟩

theorem forwarded_hw (portal : Bool) (len now : Nat) (g : GuestSession) : (g.forwarded portal len now).hw = g.hw := by
  unfold GuestSession.forwarded
  dsimp only
  split
  · split <;> rfl
  · split <;> rfl
  · split <;> rfl
  · rfl

theorem keeps_judgeGuest {s : State} {g : GuestSession} (portal : Bool) (len : Nat) (hg : g ∈ s.gat.sessions) :
    Keeps s (judgeGuest portal len g s).1 := by
  unfold judgeGuest
  split
  · exact keeps_guestDrop ..
  · exact (keeps_putGuest hg (forwarded_hw ..)).trans (.ite (fun _ => keeps_report ..) fun _ => .refl _)

theorem keeps_takeAddress (hw : HwAddr) (a : Ipv4) : Keeps s (takeAddress hw a s) :=
  keeps_mapGuests s fun g => by split <;> (try split) <;> rfl

theorem keeps_guestOutbound (hw : HwAddr) (src : Ipv4) (portal : Bool) (len : Nat) : Keeps s (guestOutbound hw src portal len s).1 := by
  unfold guestOutbound
  split
  · exact keeps_guestDrop ..
  · split
    · exact keeps_guestDrop ..
    · obtain ⟨hkeeps, hmem⟩ := keeps_guestFor s hw
      split
      · rename_i heq
        rwa [heq] at hkeeps
      · rename_i u g heq
        rw [heq] at hkeeps hmem
        have hjudge := hkeeps.trans (keeps_judgeGuest portal len (hmem g rfl))
        split
        · rename_i heq
          rwa [heq] at hjudge
        · rename_i heq
          rw [heq] at hjudge
          exact hjudge.trans (keeps_takeAddress ..)

theorem keeps_guestInbound (dst : Ipv4) (portal : Bool) (len : Nat) : Keeps s (guestInbound dst portal len s).1 := by
  unfold guestInbound
  split
  · exact keeps_guestDrop ..
  · split
    · exact keeps_guestDrop ..
    · rename_i g hg
      have hjudge := keeps_judgeGuest (s := s) portal len (List.mem_of_find?_eq_some hg)
      split
      · rename_i heq
        rwa [heq] at hjudge
      · rename_i heq
        rwa [heq] at hjudge

theorem keeps_armGuestFull : Keeps s (armGuestFull s) := keeps_gat s

theorem keeps_takeIdle (hw : HwAddr) : Keeps s (takeIdle hw s) := by
  unfold takeIdle
  split
  · exact .ite (fun _ => (keeps_putGuest (mem_of_guest ‹_›)).trans (keeps_armGuestFull _)) fun _ => .refl s
  · exact .refl s

theorem keeps_takeExpiry (hw : HwAddr) : Keeps s (takeExpiry hw s) := by
  unfold takeExpiry
  split
  · exact .ite (fun _ => keeps_putGuest (mem_of_guest ‹_›)) fun _ => .refl s
  · exact .refl s

theorem keeps_takeCooldownEnd (hw : HwAddr) : Keeps s (takeCooldownEnd hw s) := by
  unfold takeCooldownEnd
  split
  · exact .ite (fun _ => (keeps_putGuest (mem_of_guest ‹_›)).trans (keeps_armGuestFull _)) fun _ => .refl s
  · exact .refl s

theorem keeps_takeAllGuestEvents : Keeps s (takeAllGuestEvents s) :=
  .foldl (fun s hw => ((keeps_takeIdle s hw).trans (keeps_takeExpiry _ hw)).trans (keeps_takeCooldownEnd _ hw)) _ s

theorem keeps_takeAllIdle : Keeps s (takeAllIdle s) := .foldl (fun s hw => keeps_takeIdle s hw) _ s

theorem keeps_uncool : Keeps s (uncool s) := keeps_mapGuests s fun _ => rfl

theorem keeps_admitted (g : GuestSession) (q : Nat) : Keeps s (if q = 0 then s.report g.quotaReport else s) :=
  .ite (fun _ => keeps_report ..) fun _ => .refl s

theorem keeps_admitDevice (a : GuestAdmitArgs) : Keeps s (admitDevice a s).1 := by
  unfold admitDevice admitGuest
  split
  · split
    · exact (keeps_putGuest (mem_of_guest ‹_›)).trans (keeps_admitted ..)
    · exact .refl s
  · split
    · exact .refl s
    · exact (keeps_makeRoom_putGuest ‹_› _).trans (keeps_admitted ..)

theorem keeps_guestBar (hw : HwAddr) : Keeps s (guestBar hw s).1 := by
  unfold guestBar
  split
  · exact .refl s
  · split
    · exact keeps_putGuest (mem_of_guest ‹_›)
    · split
      · exact .refl s
      · exact keeps_makeRoom_putGuest ‹_› _

/-! ### Frames (07) -/

theorem keeps_zfw {z : Forwarder} (hf : (∀ p, (s.zfw.fifo p).length ≤ 256) → ∀ p, (z.fifo p).length ≤ 256)
    (hr : z.ranges = s.zfw.ranges := by rfl) (hp : z.policy = s.zfw.policy := by rfl) : Keeps s { s with zfw := z } where
  queues h := ⟨hf h.1, h.2⟩
  cells := by
    simp only [State.cellsFixed, Forwarder.cell, hp]
    exact id
  flags := by
    simp only [State.flagsSingle, Forwarder.range, hr]
    exact id

theorem fifo_setFifo (z : Forwarder) (p q : BranchPort) (l : List EgressFrame) :
    (z.setFifo p l).fifo q = if q = p then l else z.fifo q := by
  cases p <;> cases q <;> rfl

theorem keeps_setFifo {p : BranchPort} {l : List EgressFrame} (hl : (s.zfw.fifo p).length ≤ 256 → l.length ≤ 256) :
    Keeps s { s with zfw := s.zfw.setFifo p l } := by
  refine keeps_zfw s (fun h q => ?_) (by cases p <;> rfl) (by cases p <;> rfl)
  rw [fifo_setFifo]
  split
  · exact hl (h p)
  · exact h q

theorem keeps_enqueueEgress (p : BranchPort) (src : Zone) (f : EgressFrame) : Keeps s (enqueueEgress p src f s) := by
  unfold enqueueEgress
  refine .ite (fun hlen => ?_) fun _ => keeps_onCounts ..
  exact (keeps_setFifo s (p := p) fun _ => by simp only [List.length_append, List.length_singleton]; omega).trans (keeps_onCounts _ _)

theorem keeps_discardGuestFifo : Keeps s (discardGuestFifo s) :=
  (keeps_setFifo s (p := .guest) (l := []) fun _ => Nat.zero_le _).trans (keeps_onCounts _ _)

theorem keeps_dropSpoofed (p : Port) (src : Ipv4) : Keeps s (dropSpoofed p src s) := by
  unfold dropSpoofed
  have hspoof (u : State) (t : Nat) : Keeps u { u with zfw := u.zfw.setSpoof p t } :=
    keeps_zfw u (fun h q => by cases p <;> exact h q) (by cases p <;> rfl) (by cases p <;> rfl)
  exact (keeps_onCounts s _).trans (.ite (fun _ => (hspoof _ _).trans (keeps_logFault ..)) fun _ => .refl _)

theorem keeps_placeFrame (f : TrafficFrame) (src dst : Zone) (portal : Bool) (p : Packet) :
    Keeps s (placeFrame f src dst portal p s) := by
  have huplink (d : Zone) : Keeps s (placeUplink src d f.length p s) := by
    unfold placeUplink
    split
    · exact (keeps_onCounts s _).trans (keeps_enqueueClass ..)
    · exact keeps_onCounts ..
  unfold placeFrame
  refine .ite (fun _ => ?guest) fun _ => ?other
  case guest =>
    have hout := keeps_guestOutbound s f.srcHw p.src portal f.length
    unfold placeGuest
    split
    · rename_i heq
      rwa [heq] at hout
    · rename_i heq
      rw [heq] at hout
      refine hout.trans (.ite (fun _ => keeps_enqueueEgress ..) fun _ => .ite (fun _ => ?_) fun _ => keeps_onCounts ..)
      exact (keeps_onCounts _ _).trans (keeps_enqueueGuest ..)
  case other =>
    split
    · have hin := keeps_guestInbound s p.dst portal f.length
      unfold placeInBlock
      split
      · rename_i heq
        rwa [heq] at hin
      · rename_i heq
        rw [heq] at hin
        exact hin.trans (keeps_enqueueEgress ..)
    · exact keeps_enqueueEgress ..
    · exact keeps_enqueueEgress ..
    · exact keeps_onCounts ..
    all_goals exact huplink _

theorem keeps_forwardFrame (f : TrafficFrame) (port : Port) : Keeps s (forwardFrame f port s) := by
  unfold forwardFrame
  split
  · exact keeps_onCounts ..
  · refine .ite (fun _ => keeps_onCounts ..) fun _ => ?_
    split
    · exact keeps_dropSpoofed ..
    · exact keeps_onCounts ..
    · unfold judgeFrameZones
      exact .ite (fun _ => keeps_placeFrame ..) fun _ => keeps_onCounts ..

theorem keeps_frameArrives (port : Port) (f : TrafficFrame) (mem : MemFaults) : Keeps s (frameArrives port f mem s) := by
  unfold frameArrives
  refine .ite (fun _ => .refl s) fun _ => .ite (fun _ => keeps_runLane ..) fun _ => ?_
  split
  · exact keeps_runDatagram ..
  · exact keeps_forwardFrame ..

theorem keeps_leaveFifo (p : BranchPort) (found : Bool) : Keeps s (leaveFifo p found s) := by
  have hsend (u : State) (f : EgressFrame) : Keeps u (sendEgress p f u) := by cases p <;> exact keeps_out ..
  unfold leaveFifo
  split
  · exact .refl s
  · rename_i f rest hf
    refine .trans (keeps_setFifo s fun h => ?_) (.ite (fun _ => hsend ..) fun _ => keeps_onCounts ..)
    rw [hf] at h
    exact (Nat.le_succ _).trans h

theorem keeps_portReady (p : BranchPort) (found : Bool) : Keeps s (portReady p found s) := by
  unfold portReady
  split
  · rename_i m rest _
    exact (keeps_out s { s.out with till := some (.service m) }).trans (keeps_tsu (t := { s.tsu with outbox := rest }) _)
  · exact keeps_leaveFifo ..

/-! ### The radio (05) -/

theorem keeps_putLeave {s : State} {x : LabelEntry} (a : LabelAddr) (h : s.labelsOrdered → addrOk x.addr = true) :
    Keeps s (s.onLrc fun l => (l.put x).leave a) := keeps_onLrc ((LabelRadio.keeps_put h).trans (LabelRadio.keeps_leave ..))

theorem keeps_accept (p : Bool) (f : FrameInFlight) : Keeps s (s.onLrc (·.accept p f)) := keeps_onLrc (LabelRadio.keeps_accept ..)

theorem keeps_grantOne (mem : MemFaults) (frame : Nat) (q : QueueEntry) : Keeps s (grantOne mem frame q s).1 := by
  have hread (e : LabelEntry) : Keeps s (readBound mem e s) ∧ (readBound mem e s).lrc = s.lrc := by
    unfold readBound
    split
    · exact ⟨keeps_checkItem .., checkItem_lrc ..⟩
    · exact ⟨.refl s, rfl⟩
  unfold grantOne
  split
  · rename_i e w he hw
    obtain ⟨hkeeps, hlrc⟩ := hread e
    have haddr : (readBound mem e s).labelsOrdered → addrOk e.addr = true := by
      rw [State.labelsOrdered, hlrc]
      exact fun hl => LabelRadio.Ordered.addrOk_of_entry hl he
    exact hkeeps.trans (keeps_putLeave (x := { e with
      state := .sent, lastSend := some ⟨(composeOn e (readBound mem e s)).tag, w⟩ }) e.addr haddr)
  · exact .refl s

theorem keeps_grantAll (mem : MemFaults) (frame : Nat) (qs : List QueueEntry) : Keeps s (grantAll mem frame qs s).1 := by
  induction qs generalizing s with
  | nil => exact .refl s
  | cons q qs ih => exact (keeps_grantOne s mem frame q).trans (ih _)

theorem keeps_beginFrame (mem : MemFaults) : Keeps s (beginFrame mem s) :=
  ((keeps_grantAll ..).trans (keeps_onLrc {})).trans (keeps_out _ _)

theorem keeps_handoverFails (x : HandoverFailure) : Keeps s (handoverFails x s) := by
  have hundo (gs : List Grant) (l : LabelRadio) (p : RadioPort) :
      LabelRadio.Keeps l { gs.foldl (fun l g => l.undo g) l with frame := none, port := p } :=
    (LabelRadio.Keeps.foldl (fun l g => LabelRadio.keeps_undo g l) gs l).trans {}
  unfold handoverFails failHandover
  split
  · exact .ite (fun _ => .refl s) fun _ => .trans (keeps_onLrc (hundo ..)) (.ite (fun _ => keeps_logFault ..) fun _ => .refl _)
  · exact .refl s

@[simp] theorem ackNotice_lrc (code : Nat) (a : LabelAddr) (v : Nat) : (ackNotice code a v s).lrc = s.lrc := by
  unfold ackNotice
  split
  · rfl
  · split <;> rfl

theorem keeps_sendAckNotice (e : LabelEntry) : Keeps s (sendAckNotice e s) ∧ (sendAckNotice e s).lrc = s.lrc := by
  unfold sendAckNotice
  split
  · exact ⟨keeps_ackNotice .., ackNotice_lrc ..⟩
  · exact ⟨.refl s, rfl⟩

theorem keeps_afterAck {s : State} {e : LabelEntry} (h : s.labelsOrdered → addrOk e.addr = true) : Keeps s (afterAck e s) := by
  unfold afterAck
  split
  · exact keeps_onLrc (LabelRadio.keeps_enqueue (e := { e with requeue := none }) _ _ _ h)
  · exact .ite (fun _ => keeps_onLrc (LabelRadio.keeps_put (e := { e with state := .idle, owed := none }) h)) fun _ =>
      keeps_onLrc (LabelRadio.keeps_enqueue _ _ _ h)

theorem keeps_takeAck {s : State} {e : LabelEntry} (a : AckAnswer) (h : s.labelsOrdered → addrOk e.addr = true) :
    Keeps s (takeAck e a s) := by
  obtain ⟨hkeeps, hlrc⟩ := keeps_sendAckNotice s ((e.acked a s.now).confirm (boundVersion e s))
  have hreport (u : State) (b : ReportBody) : Keeps u (if e.lowBattery a.battery then u.report b else u) :=
    .ite (fun _ => keeps_report ..) fun _ => .refl u
  have hlabels (u : State) (b : ReportBody) (hu : u.lrc = s.lrc) :
      (if e.lowBattery a.battery then u.report b else u).labelsOrdered → s.labelsOrdered := by
    unfold State.labelsOrdered
    split
    · rw [report_lrc, hu]; exact id
    · rw [hu]; exact id
  exact (hkeeps.trans (hreport _ _)).trans (keeps_afterAck fun hl => h (hlabels _ _ hlrc hl))

theorem keeps_slotAnswer (slot : Nat) (answer : Option AckAnswer) : Keeps s (slotAnswer slot answer s) := by
  unfold slotAnswer
  split
  · exact keeps_onLrc (LabelRadio.keeps_staleAnswer _)
  · rename_i f _
    refine .trans (keeps_accept s false f) ?_
    dsimp only
    split
    · exact keeps_onLrc (LabelRadio.keeps_staleAnswer _)
    · split
      · rename_i e he
        refine keeps_takeAck _ fun hl => hl.2 e ?_
        unfold ackTarget at he
        split at he
        · split at he
          · split at he
            · exact Option.some.inj he ▸ LabelRadio.mem_of_entry ‹_›
            · cases he
          · cases he
        · cases he
      · exact keeps_onLrc (LabelRadio.keeps_staleAnswer _)

theorem keeps_judgePoll (bitmap : BitVec 24) (key : Nat) : Keeps s (judgePoll bitmap key s) := by
  unfold judgePoll
  split
  · exact .refl s
  · rename_i e he
    have haddr : s.labelsOrdered → addrOk e.addr = true := fun hl => hl.2 e (List.mem_of_find?_eq_some he)
    have hput (x : LabelEntry) (hx : x.addr = e.addr) : Keeps s (s.onLrc (·.put x)) :=
      keeps_onLrc (LabelRadio.keeps_put fun hl => hx ▸ haddr hl)
    refine .ite (fun _ => ?answered) fun _ => ?missed
    case answered =>
      unfold pollAnswered
      split
      · dsimp only
        split
        · exact keeps_onLrc (LabelRadio.keeps_enqueue (e := { e with missed := 0, retries := 0, lastHeard := some s.now }) _ _ _ haddr)
        · exact hput _ rfl
      · exact .refl s
      · exact hput _ rfl
    case missed =>
      unfold pollMissed
      split
      · exact .refl s
      · exact .refl s
      · exact .ite (fun _ => keeps_enterMissing _ haddr) fun _ => hput _ rfl

theorem keeps_pollAnswer (bitmap : BitVec 24) : Keeps s (pollAnswer bitmap s) := by
  have hrails (u : State) (rails : Vector RailEntry 1024) : Keeps u (u.onLrc fun l => { l with rails := rails }) := keeps_onLrc {}
  unfold pollAnswer takeBitmap
  split
  · exact .refl s
  · split
    · exact .refl s
    · exact .ite (fun _ => .refl s) fun _ => (keeps_accept s true _).trans ((hrails _ _).trans
        (.foldl (fun s k => keeps_judgePoll s bitmap k) _ _))

theorem keeps_resolveKey (key : Nat) : Keeps s (resolveKey key s) := by
  unfold resolveKey
  split
  · exact .refl s
  · rename_i e he
    have haddr : s.labelsOrdered → addrOk e.addr = true := fun hl => hl.2 e (List.mem_of_find?_eq_some he)
    refine .ite (fun _ => ?_) fun _ => .refl s
    unfold resolveSent
    dsimp only
    split
    · exact keeps_onLrc (LabelRadio.keeps_enqueue (e := { e with requeue := none }) _ _ _ haddr)
    · exact .ite (fun _ => keeps_enterMissing _ haddr) fun _ => keeps_onLrc (LabelRadio.keeps_enqueue (e := { e with
        retries := e.retries + 1, owed := raiseOpt e.owed e.requeue, requeue := none }) _ _ _ haddr)

theorem keeps_endFrame : Keeps s (endFrame s) := by
  unfold endFrame
  split
  · exact .refl s
  · exact .trans (keeps_onLrc {}) (.foldl (fun s k => keeps_resolveKey s k) _ _)

end Sys2Proof.Machine
end

section
/-! What the host's requests and the starts keep, every command among them, and the statements about every step. -/
-- A theorem that uses a default proof of `Keeps` waits for all the theorems before it; elaborated one after another they need no threads of their own.
set_option Elab.async false

namespace Sys2Proof.Machine

variable (s : State)

/-! ### Requests (R180) -/

/-- A command keeps the invariants, that of the replies among them. -/
structure CommandKeeps (s t : State) : Prop extends SoundKeeps s t where
  replies : s.repliesBounded → t.repliesBounded := by exact id

theorem Keeps.toCommand {s t : State} (h : Keeps s t) : CommandKeeps s t where
  toSoundKeeps := h.toSoundKeeps
  replies := by
    simp only [State.repliesBounded, MessagePort.unreplied, MessagePort.immediates, h.replies]
    exact id

theorem CommandKeeps.trans {s t u : State} (h : CommandKeeps s t) (g : CommandKeeps t u) : CommandKeeps s u :=
  ⟨h.toSoundKeeps.trans g.toSoundKeeps, g.replies ∘ h.replies⟩

/-- A reply outside the immediate-refusal list takes a place of the request queue. -/
theorem keeps_addReply (tag : Nat) {place : ReplyPlace} (r : Reply) (hplace : place ≠ .immediate) (h8 : s.msp.unreplied < 8) :
    CommandKeeps s (s.addReply tag place r) where
  replies h := by
    have hne : (place != .immediate) = true := by simpa using hplace
    have heq : (place == .immediate) = false := by simpa using hplace
    simp only [State.repliesBounded, MessagePort.unreplied, MessagePort.immediates, addReply_replies, List.filter_append,
      List.filter_cons, hne, heq, List.length_append] at h h8 ⊢
    exact ⟨h8, h.2⟩

theorem keeps_refuseAtOnce (tag : Nat) (r : RefuseReason) : CommandKeeps s (s.refuseAtOnce tag r) := by
  unfold State.refuseAtOnce
  split
  · rename_i h8
    refine { replies := fun h => ?_ }
    simp only [State.repliesBounded, MessagePort.unreplied, MessagePort.immediates, addReply_replies, List.filter_append,
      List.length_append] at h h8 ⊢
    exact ⟨h.1, h8⟩
  · exact (keeps_frameErrorSeen ..).toCommand

theorem keeps_hostRequest {tag : Nat} {f : State → State × Reply} (hf : Keeps s (f s).1) : CommandKeeps s (hostRequest tag f s) := by
  rcases hostRequest_cases tag f s with ⟨-, h⟩ | ⟨-, -, h⟩ | ⟨hc, h⟩
  · rw [h]; exact (Keeps.refl s).toCommand
  · rw [h]; exact keeps_refuseAtOnce ..
  · rw [h]
    refine hf.toCommand.trans (keeps_addReply _ _ _ (by decide) ?_)
    rw [MessagePort.unreplied, hf.replies]
    exact (canTake_iff.mp hc).2

theorem keeps_withBody {α : Type} {args : Option α} {f : α → State → State × Reply} (hf : ∀ a, Keeps s (f a s).1) :
    Keeps s (withBody args f s).1 := by
  cases args with
  | none => exact .refl s
  | some a => exact hf a

theorem keeps_withoutBody {empty : Bool} {f : State → State × Reply} (hf : Keeps s (f s).1) : Keeps s (withoutBody empty f s).1 := by
  unfold withoutBody
  split
  · exact hf
  · exact .refl s

/-- A request with fields, from what its block keeps. -/
theorem keeps_request {α : Type} {tag : Nat} {args : Option α} {f : α → State → State × Reply} (hf : ∀ a, Keeps s (f a s).1) :
    CommandKeeps s (hostRequest tag (withBody args f) s) := keeps_hostRequest s (keeps_withBody s hf)

/-- A request without fields, from what its block keeps. -/
theorem keeps_bareRequest {tag : Nat} {empty : Bool} {f : State → State × Reply} (hf : Keeps s (f s).1) :
    CommandKeeps s (hostRequest tag (withoutBody empty f) s) := keeps_hostRequest s (keeps_withoutBody s hf)

/-! ### Item requests (01) -/

theorem keeps_withItem {code : Nat} {f : ItemRecord → State → State × Reply} (hf : ∀ r, s.item code = some r → Keeps s (f r s).1) :
    Keeps s (withItem code f s).1 := by
  unfold withItem
  split
  · split
    · exact hf _ ‹_›
    · exact .refl s
  · exact .refl s

/-- An append leaves the item records. -/
theorem journalAppend_itb (mem : MemFaults) (c : JournalContent) : (journalAppend mem c s).1.itb = s.itb := by
  unfold journalAppend
  split
  · obtain ⟨j, m, h, -⟩ := acceptAppend_frame mem c s
    rw [h]
  · unfold refuseAppend
    dsimp only
    split <;> rfl

/-- A request that asks the journal for a record, and acts where it is taken. -/
theorem keeps_appendThen {mem : MemFaults} {c : JournalContent} {f : State → State × Reply} {r : Reply}
    (hf : ∀ u, u.itb = s.itb → Keeps u (f u).1) :
    Keeps s (match journalAppend mem c s with | (u, some _) => f u | (u, none) => (u, r)).1 := by
  have h := keeps_journalAppend s mem c
  have hitb := journalAppend_itb s mem c
  split
  · rename_i heq
    rw [heq] at h hitb
    exact h.trans (hf _ hitb)
  · rename_i heq
    rwa [heq] at h

theorem item_of_itb {s u : State} (h : u.itb = s.itb) (c : Nat) : u.item c = s.item c := by simp only [State.item, h]

theorem keeps_itemPut (a : ItemPutArgs) (mem : MemFaults) : Keeps s (itemPut a mem s).1 := by
  unfold itemPut
  split
  · rename_i hok
    have hcode : codeOk a.code = true := by
      simp only [Bool.and_eq_true] at hok
      exact hok.1
    split
    · exact .refl s
    · split
      · unfold putNew
        split
        · refine keeps_appendThen s fun u hu => keeps_putItem_new ?_ hcode (sound_fresh ..)
          rw [hu]; assumption
        · exact .refl s
      · rename_i r hr
        refine keeps_appendThen s fun u hu => keeps_changeCurrent (also := fun x => { x with
          desc := a.desc, band := a.band, damaged := false }) mem _ ?_ (fun _ => rfl) fun _ h => h
        rw [item_of_itb hu, item_code hr]; exact hr
  · exact .refl s

theorem keeps_itemPrice (a : ItemPriceArgs) (mem : MemFaults) {r : ItemRecord} (hr : s.item a.code = some r) :
    Keeps s (itemPrice a mem r s).1 := by
  unfold itemPrice
  split
  · exact .refl s
  · split
    · exact .refl s
    · refine keeps_appendThen s fun u hu => keeps_changeCurrent mem _ ?_ (fun _ => rfl) fun _ h => h
      rw [item_of_itb hu, item_code hr]; exact hr

theorem keeps_itemDelete (mem : MemFaults) (r : ItemRecord) : Keeps s (itemDelete mem r s).1 :=
  keeps_appendThen s (f := fun u => (removeItem r u, .okay)) fun u _ => keeps_removeItem u r

theorem sound_lagAccepted {r : ItemRecord} (h : r.sound) : r.lagAccepted.sound := by
  obtain ⟨-, -, -, hcur, hlen⟩ := h
  refine ⟨?_, by simp [ItemRecord.lagAccepted], by simp [ItemRecord.lagAccepted], fun hne => hcur ?_, ?_⟩
  · symm
    simp only [ItemRecord.lagAccepted, ItemRecord.pendingCount, List.length_eq_zero_iff, List.filter_eq_nil_iff, List.mem_map]
    rintro _ ⟨l, -, rfl⟩
    split <;> simp [BoundLabel.counted, *]
  · rintro hnil
    simp [ItemRecord.lagAccepted, hnil] at hne
  · simpa [ItemRecord.lagAccepted] using hlen

theorem keeps_lagAccept (mem : MemFaults) {c : Nat} {r : ItemRecord} (hr : s.item c = some r) : Keeps s (lagAccept mem r s).1 := by
  have happend := keeps_journalAppend s mem (.lag r.code r.count)
  have hitb := journalAppend_itb s mem (.lag r.code r.count)
  unfold lagAccept
  split
  · exact .refl s
  · split
    · rename_i heq
      rwa [heq] at happend
    · rename_i u _ heq
      rw [heq] at happend hitb
      have hr' : State.item c { u with lrc := (u.lrc.exclude r.code r.version).1 } = some r := (item_of_itb hitb c).trans hr
      exact (happend.trans (keeps_lrc (LabelRadio.keeps_exclude ..))).trans (keeps_putItem hr' (hs := sound_lagAccepted))

theorem keeps_taxSet (a : TaxArgs) : Keeps s (taxSet a s).1 := by
  unfold taxSet
  split
  · refine { settings := ?_ }
    rintro ⟨hlag, hrates, hrest⟩
    refine ⟨hlag, fun b => ?_, hrest⟩
    rw [tget_tset]
    split
    · exact Nat.min_le_right ..
    · exact hrates b
  · exact .refl s

theorem keeps_priceParams (limit : Nat) : Keeps s (priceParams limit s).1 :=
  .trans (t := { s with itb := { s.itb with lagLimit := clamp 60 7200 limit } })
    { settings := fun ⟨_, hrest⟩ => ⟨⟨clamp_ge (by decide) _, clamp_le (by decide) _⟩, hrest⟩ } (keeps_judgeAllLags _)

/-! ### Till requests (03) -/

theorem keeps_withLane {lane : Nat} {f : Nat → State → State × Reply} (hf : Keeps s (f lane s).1) : Keeps s (withLane lane f s).1 := by
  unfold withLane
  split
  · exact hf
  · exact .refl s

theorem keeps_rosterSet (a : RosterArgs) : Keeps s (rosterSet a s).1 := by
  unfold rosterSet
  split
  · split
    · exact keeps_setRoster ..
    · exact .refl s
  · exact .refl s

theorem keeps_tillStatus (lane : Nat) : Keeps s (tillStatus lane s).1 := by
  refine keeps_setSession_same s ?_ ?_
  · unfold Session.statusTaken; split <;> rfl
  · unfold Session.statusTaken; split <;> rfl

theorem keeps_tillLockout (lane : Nat) : Keeps s (tillLockout lane s).1 := by
  unfold tillLockout
  split
  · exact .refl s
  · exact keeps_setLockout ..

theorem keeps_tillRelease (lane : Nat) : Keeps s (tillRelease lane s).1 := by
  unfold tillRelease
  split
  · exact keeps_setLockout ..
  · exact .refl s

theorem keeps_tillClear (mem : MemFaults) (lane : Nat) : Keeps s (tillClear mem lane s).1 := by
  have h := keeps_appendAbandon s mem .hostClear lane
  unfold tillClear
  split
  · split
    · rename_i heq
      rw [heq] at h
      exact h.trans (keeps_closeBasket ..)
    · rename_i heq
      rwa [heq] at h
  · exact .refl s

theorem keeps_tillParams (mem : MemFaults) (a : TillParamsArgs) : Keeps s (tillParams mem a s).1 := by
  unfold tillParams
  dsimp only
  exact .trans (t := { s with tsu := { s.tsu with pollPeriod := clamp 1 10 a.poll, window := clamp 30 600 a.window } })
    { settings := fun ⟨hlag, hrates, _, _, hrest⟩ => ⟨hlag, hrates, ⟨clamp_ge (by decide) _, clamp_le (by decide) _⟩,
        ⟨clamp_ge (by decide) _, clamp_le (by decide) _⟩, hrest⟩ }
    (.foldl (fun s l => keeps_judgeWindow s mem l) lanes _)

/-! ### Journal and label requests (04, 05) -/

theorem keeps_journalRead (mem : MemFaults) (a : JournalReadArgs) : Keeps s (journalRead mem a s).1 := by
  unfold journalRead
  dsimp only
  split
  · exact .refl s
  · split
    · exact .refl s
    · split
      · exact keeps_checkPage ..
      · exact .refl s

theorem keeps_withLabel {a : LabelAddr} {t : Option Nat} {f : State → State × Reply} (hf : addrOk a = true → Keeps s (f s).1) :
    Keeps s (withLabel a t f s).1 := by
  unfold withLabel
  split
  · rename_i hok
    split
    · simp only [Bool.and_eq_true] at hok
      exact hf hok.1
    · exact .refl s
  · exact .refl s

theorem keeps_withEntry {a : LabelAddr} {f : LabelEntry → State → State × Reply}
    (hf : ∀ e, s.lrc.entry a = some e → Keeps s (f e s).1) : Keeps s (withEntry a f s).1 := by
  unfold withEntry
  split
  · split
    · exact hf _ ‹_›
    · exact .refl s
  · exact .refl s

theorem keeps_setTemplate {a : LabelAddr} {e : LabelEntry} (t : Nat) (he : s.lrc.entry a = some e) : Keeps s (setTemplate t e s) := by
  unfold setTemplate
  exact .ite (fun _ => .refl s) fun _ =>
    keeps_onLrc ((LabelRadio.keeps_put_of_entry (e := { e with template := t }) he).trans (LabelRadio.keeps_cause ..))

theorem keeps_labelAdd (a : LabelAddArgs) (ha : addrOk a.addr = true) : Keeps s (labelAdd a s).1 := by
  unfold labelAdd
  split
  · exact keeps_onLrc (LabelRadio.keeps_create _ _ _ _ ha)
  · exact keeps_setTemplate _ _ ‹_›

@[simp] theorem bindNotice_lrc (code : Nat) (a : LabelAddr) : (bindNotice code a s).lrc = s.lrc := by
  unfold bindNotice; split <;> rfl

@[simp] theorem unbindNotice_lrc (code : Nat) (a : LabelAddr) : (unbindNotice code a s).lrc = s.lrc := by
  unfold unbindNotice; split <;> rfl

@[simp] theorem unbindOld_lrc (e : LabelEntry) : (unbindOld e s).lrc = s.lrc := by
  unfold unbindOld
  split
  · exact unbindNotice_lrc ..
  · rfl

theorem keeps_unbindOld (e : LabelEntry) : Keeps s (unbindOld e s) := by
  unfold unbindOld
  split
  · exact keeps_unbindNotice ..
  · exact .refl s

/-- An unbind notice leaves every other item's record. -/
theorem unbindNotice_item_ne {code c : Nat} (a : LabelAddr) (h : c ≠ code) : (unbindNotice code a s).item c = s.item c := by
  unfold unbindNotice
  split
  · rfl
  · rename_i r hr
    exact putItem_item_ne _ _ (by simpa [ItemRecord.relabel, ItemRecord.recount, item_code hr] using h)

theorem bindRefusal_none {r : Option ItemRecord} (h : bindRefusal r = none) :
    ∃ x, r = some x ∧ x.labels.length < 4 ∧ x.current.isSome = true := by
  unfold bindRefusal at h
  split at h
  · cases h
  · rename_i x
    split at h
    · cases h
    · rename_i hlen
      split at h
      · cases h
      · rename_i hcur
        exact ⟨x, rfl, by omega, by simpa [Option.isSome_iff_ne_none] using hcur⟩

theorem keeps_labelBind (a : LabelBindArgs) (ha : addrOk a.addr = true) : Keeps s (labelBind a s).1 := by
  have hpresent (e : Option LabelEntry) (he : s.lrc.entry a.addr = e) (hne : ∀ x, e = some x → x.item ≠ some a.code) :
      Keeps s (presentBind a e s).1 := by
    unfold presentBind
    split
    · exact .refl s
    · obtain ⟨r, hr, hroom⟩ := bindRefusal_none ‹_›
      split
      · refine (keeps_bindNotice a.addr fun x hx => ?_).trans (keeps_onLrc (LabelRadio.keeps_create _ _ _ _ ha))
        obtain rfl : r = x := Option.some.inj (hr.symm.trans hx)
        exact hroom
      · rename_i e
        have hitem : (unbindOld e s).item a.code = s.item a.code := by
          unfold unbindOld
          split
          · rename_i c hc
            exact unbindNotice_item_ne s _ fun h => hne e rfl (h ▸ hc)
          · rfl
        dsimp only
        unfold rebind
        have hentry : (bindNotice a.code a.addr (unbindOld e s)).lrc.entry a.addr = some e := by
          rw [bindNotice_lrc, unbindOld_lrc]; exact he
        refine ((keeps_unbindOld s e).trans (keeps_bindNotice a.addr fun x hx => ?_)).trans
          (keeps_onLrc (.trans (LabelRadio.keeps_put_of_entry hentry) (LabelRadio.keeps_cause ..)))
        rw [hitem, hr] at hx
        obtain rfl := Option.some.inj hx
        exact hroom
  unfold labelBind
  split
  · rename_i e he
    split
    · exact keeps_setTemplate _ _ he
    · rename_i hne
      exact hpresent _ he fun x hx => Option.some.inj hx ▸ hne
  · rename_i he
    exact hpresent none he fun _ h => nomatch h

theorem keeps_labelUnbind (e : LabelEntry) : Keeps s (labelUnbind e s).1 := by
  unfold labelUnbind
  split
  · exact .refl s
  · exact (keeps_unbindNotice ..).trans (keeps_onLrc (LabelRadio.keeps_loseItem ..))

theorem keeps_labelRemove (e : LabelEntry) : Keeps s (labelRemove e s).1 :=
  (keeps_unbindOld s e).trans (keeps_onLrc (LabelRadio.keeps_remove ..))

theorem keeps_labelGet (a : LabelAddr) : Keeps s (labelGet a s).1 := by
  unfold labelGet
  split <;> exact .refl s

theorem keeps_railSet (a : RailSetArgs) : Keeps s (railSet a s).1 := by
  unfold railSet
  split
  · exact keeps_onLrc (LabelRadio.keeps_setCodes ..)
  · exact .refl s

theorem keeps_labelParams (a : LabelParamsArgs) : Keeps s (labelParams a s).1 where
  settings := fun ⟨hlag, hrates, hpoll, hwin, _, _, hrest⟩ => ⟨hlag, hrates, hpoll, hwin,
    ⟨clamp_ge (by decide) _, clamp_le (by decide) _⟩, ⟨clamp_ge (by decide) _, clamp_le (by decide) _⟩, hrest⟩

/-! ### Template requests (06) -/

theorem keeps_templateBegin (n : Nat) : Keeps s (templateBegin n s).1 := by
  unfold templateBegin
  split
  · exact .refl s
  · split
    · exact .refl s
    · exact (keeps_cancel s).trans (keeps_begin { s with tps := s.tps.cancel } n s.now s.elapsed)

theorem keeps_templateElement (a : RawElement) : Keeps s (templateElement a s).1 := by
  unfold templateElement
  split
  · exact .refl s
  · split
    · exact .refl s
    · split
      · exact .refl s
      · exact {}

theorem keeps_templateEnd : Keeps s (templateEnd s).1 := by
  unfold templateEnd
  split
  · exact .refl s
  · split
    · exact keeps_cancel s
    · exact keeps_publish ..

theorem keeps_templateCancel : Keeps s (templateCancel s).1 := by
  unfold templateCancel
  split
  · exact .refl s
  · exact keeps_cancel s

theorem keeps_templateDelete (n : Nat) : Keeps s (templateDelete n s).1 := by
  unfold templateDelete
  split
  · exact .refl s
  · split
    · exact .refl s
    · split
      · exact .refl s
      · exact keeps_deleteSlot s (by omega)

theorem keeps_templateKeep (n : Nat) : Keeps s (templateKeep n s).1 := by
  unfold templateKeep
  split
  · exact .refl s
  · exact keeps_setPermanence s fun _ => rfl

theorem keeps_templateTemp (n : Nat) : Keeps s (templateTemp n s).1 := by
  unfold templateTemp
  split
  · exact .refl s
  · exact keeps_setPermanence s fun h => absurd (Or.inr h) ‹¬(63 < n ∨ n = 0)›

theorem keeps_overlaySet (a : OverlayArgs) : Keeps s (overlaySet a s).1 := by
  unfold overlaySet
  split
  · split
    · exact keeps_setOverlay ..
    · exact .refl s
  · exact .refl s

theorem keeps_overlayClear (n : Nat) : Keeps s (overlayClear n s).1 := by
  unfold overlayClear
  split
  · exact .refl s
  · exact keeps_clearOverlay ..

/-! ### Routing requests (07) -/

theorem range_setRange (i j : Nat) (e : RangeEntry) :
    (setRange i e s).zfw.range j = if i = j ∧ i < 32 then e else s.zfw.range j := tget_tset ..

/-- No other entry holds what the search looks for (R127, checks 4 and 5). -/
theorem otherHolding_none {f : RangeEntry → Bool} {i : Nat} {z : Forwarder} (h : otherHolding f i z = none) {j : Nat} (hj : j < 32)
    (hne : j ≠ i) : f (z.range j) = false := by
  have := List.find?_eq_none.mp h j (List.mem_range.mpr hj)
  simpa [hne] using this

/-- An entry that claims what no other entry holds leaves each flag with one entry (R119). -/
theorem keeps_setRange {i : Nat} {e : RangeEntry} (hpeer : e.peer = true → e.zone = .headoffice ∧ otherHolding (·.peer) i s.zfw = none)
    (hclaim : e.claim = true → e.zone = .payment ∧ otherHolding (·.claim) i s.zfw = none) : Keeps s (setRange i e s) where
  queues h := h
  flags := by
    have hone (f : RangeEntry → Bool) (he : f e = true → otherHolding f i s.zfw = none)
        (hs : ∀ a b, a < 32 → b < 32 → f (s.zfw.range a) = true → f (s.zfw.range b) = true → a = b) (a b : Nat) (ha : a < 32)
        (hb : b < 32) (hfa : f ((setRange i e s).zfw.range a) = true) (hfb : f ((setRange i e s).zfw.range b) = true) : a = b := by
      rw [range_setRange] at hfa hfb
      by_cases hia : i = a <;> by_cases hib : i = b
      · exact hia.symm.trans hib
      · subst hia
        rw [if_pos ⟨rfl, ha⟩] at hfa
        rw [if_neg fun h => hib h.1] at hfb
        exact absurd hfb (by rw [otherHolding_none (he hfa) hb (Ne.symm hib)]; decide)
      · subst hib
        rw [if_pos ⟨rfl, hb⟩] at hfb
        rw [if_neg fun h => hia h.1] at hfa
        exact absurd hfa (by rw [otherHolding_none (he hfb) ha (Ne.symm hia)]; decide)
      · rw [if_neg fun h => hia h.1] at hfa
        rw [if_neg fun h => hib h.1] at hfb
        exact hs a b ha hb hfa hfb
    rintro ⟨hp, hc, hz⟩
    refine ⟨hone (·.peer) (fun h => (hpeer h).2) hp, hone (·.claim) (fun h => (hclaim h).2) hc, fun j hj => ?_⟩
    rw [range_setRange]
    split
    · exact ⟨fun h => (hpeer h).1, fun h => (hclaim h).1⟩
    · exact hz j hj

theorem keeps_rangeSet (a : RangeArgs) : Keeps s (rangeSet a s).1 := by
  unfold rangeSet
  split
  · exact .refl s
  · rename_i z _
    dsimp only
    split
    · exact .refl s
    · rename_i hfield
      split
      · exact .refl s
      · rename_i hpass
        push Not at hfield
        obtain ⟨-, hpz, hcz⟩ := hfield
        unfold rangeRefusal at hpass
        split at hpass
        · split at hpass
          · cases hpass
          · cases hpass
          · rename_i hclaim hpeer
            refine keeps_setRange s (fun (h : a.peer = true) => ⟨hpz h, ?_⟩) fun (h : a.claim = true) => ⟨hcz h, ?_⟩
            · simpa only [h, if_true] using hpeer
            · simpa only [h, if_true] using hclaim
        · cases hpass

theorem keeps_rangeClear (i : Nat) : Keeps s (rangeClear i s).1 := by
  unfold rangeClear
  split
  · exact .refl s
  · split
    · exact .refl s
    · exact keeps_setRange s (fun h => by cases h) fun h => by cases h

theorem index_lt (z : Zone) : z.index < 7 := by cases z <;> decide

theorem index_injective {y z : Zone} (h : y.index = z.index) : y = z := by cases y <;> cases z <;> first | rfl | cases h

/-- The matrix after a cell that may be written is written (R122, R129). -/
theorem cell_tset {z : Forwarder} {src dst : Zone} {v : Policy} (hsrc : src ≠ .blocked) (x y : Zone) :
    Forwarder.cell x y { z with policy := tset z.policy (7 * src.index + dst.index) v } =
      if x = src ∧ y = dst then v else z.cell x y := by
  unfold Forwarder.cell
  by_cases hx : x = .blocked
  · rw [if_pos hx, if_pos hx, if_neg fun h : x = src ∧ y = dst => hsrc (h.1 ▸ hx)]
  · rw [if_neg hx, if_neg hx, tget_tset]
    have h6 : src.index < 6 := by cases src <;> first | decide | exact absurd rfl hsrc
    have hy := index_lt y
    have hd := index_lt dst
    by_cases hxy : x = src ∧ y = dst
    · obtain ⟨rfl, rfl⟩ := hxy
      rw [if_pos ⟨rfl, by omega⟩, if_pos ⟨rfl, rfl⟩]
    · rw [if_neg hxy, if_neg]
      rintro ⟨heq, -⟩
      exact hxy ⟨index_injective (by omega), index_injective (by omega)⟩

theorem keeps_policySet (a : PolicyArgs) : Keeps s (policySet a s).1 := by
  unfold policySet
  split
  · rename_i src dst v _ _ _
    split
    · exact .refl s
    · rename_i hok
      simp only [Bool.or_eq_true, Bool.and_eq_true, not_or, not_and, beq_iff_eq, Bool.not_eq_true', Bool.not_eq_true,
        Bool.not_eq_false] at hok
      have hsrc : src ≠ .blocked := by
        rintro rfl
        simp [fixedCell] at hok
      refine { queues := id, flags := id, cells := fun h x y => ?_ }
      change (_ → Forwarder.cell x y { s.zfw with policy := _ } = _) ∧ (Forwarder.cell x y { s.zfw with policy := _ } = _ → _)
      rw [cell_tset hsrc]
      split
      · rename_i hxy
        obtain ⟨rfl, rfl⟩ := hxy
        exact ⟨fun hf => absurd (hf.symm.trans hok.1) (by decide), fun hv => hok.2 hv⟩
      · exact h x y
  · exact .refl s

theorem keeps_kindSet (a : KindArgs) : Keeps s (kindSet a s).1 := by
  unfold kindSet
  split
  · exact .refl s
  · split
    · exact .refl s
    · exact keeps_zfw s id

theorem keeps_hintSet (a : HintArgs) : Keeps s (hintSet a s).1 := by
  unfold hintSet
  split
  · exact keeps_zfw s id
  · exact .refl s

theorem keeps_portalSet (p : Option Portal) : Keeps s (portalSet p s).1 := by
  unfold portalSet
  split
  · exact keeps_gat s
  · exact .refl s

/-! ### Guest, uplink and exchange requests (08 to 10) -/

theorem keeps_guestService (a : GuestServiceArgs) : Keeps s (guestService a s).1 := by
  have hopen (o : Bool) : Keeps s (setService o s) := by
    unfold setService
    exact (keeps_gat s (g := { s.gat with isOpen := o })).trans (.ite (fun _ => keeps_discardGuestFifo _) fun _ => .refl _)
  have hlimit (u : State) (n : Option Nat) : Keeps u (setIdleLimit n u) := by
    cases n with
    | none => exact .refl u
    | some n =>
      refine .trans (t := { u with gat := { u.gat with idleLimit := clamp 60 3600 n } }) { settings := ?_ } (keeps_takeAllIdle _)
      rintro ⟨hlag, hrates, hpoll, hwin, hretry, hpres, -, hrest⟩
      exact ⟨hlag, hrates, hpoll, hwin, hretry, hpres, ⟨clamp_ge (by decide) _, clamp_le (by decide) _⟩, hrest⟩
  unfold guestService
  split
  · exact .refl s
  · exact (hopen _).trans (hlimit _ _)

theorem keeps_guestAdmit (a : GuestAdmitArgs) : Keeps s (guestAdmit a s).1 := by
  unfold guestAdmit
  split
  · exact .refl s
  · exact keeps_admitDevice ..

theorem keeps_guestEnd (hw : HwAddr) : Keeps s (guestEnd hw s).1 := by
  unfold guestEnd
  split
  · exact .refl s
  · split
    · exact .refl s
    · exact (keeps_dropGuest ..).trans (keeps_armGuestFull _)

theorem keeps_guestGet (hw : Option HwAddr) : Keeps s (guestGet hw s).1 := by
  unfold guestGet
  split <;> exact .refl s

theorem inRange_profileOf (a : ProfileArgs) : (profileOf a).inRange := fun c => by
  cases c <;> exact ⟨clamp_ge (by decide) _, clamp_le (by decide) _⟩

theorem keeps_profileSet (a : ProfileArgs) : Keeps s (profileSet a s).1 := by
  unfold profileSet
  split
  · exact .refl s
  · rename_i n _
    refine { queues := fun h => ⟨h.1, fun c => ?_⟩, settings := ?_ }
    · have : (s.uls.setProfile n (profileOf a)).queue c = s.uls.queue c := by cases n <;> cases c <;> rfl
      exact this ▸ h.2 c
    · rintro ⟨hlag, hrates, hpoll, hwin, hretry, hpres, hidle, hday, hnight, hblock⟩
      cases n with
      | day => exact ⟨hlag, hrates, hpoll, hwin, hretry, hpres, hidle, inRange_profileOf a, hnight, hblock⟩
      | night => exact ⟨hlag, hrates, hpoll, hwin, hretry, hpres, hidle, hday, inRange_profileOf a, hblock⟩

theorem blockSizeOf_some {n b : Nat} (h : blockSizeOf n = some b) : b = 2 ∨ b = 4 ∨ b = 8 ∨ b = 16 := by
  unfold blockSizeOf at h
  split at h
  · exact Option.some.inj h ▸ ‹_›
  · cases h

theorem keeps_blockSize (n : Nat) : Keeps s (blockSize n s).1 where
  settings := fun ⟨hlag, hrates, hpoll, hwin, hretry, hpres, hidle, hday, hnight, _⟩ =>
    ⟨hlag, hrates, hpoll, hwin, hretry, hpres, hidle, hday, hnight, fun _ h => blockSizeOf_some h⟩

theorem keeps_exchangeStart (tag : Nat) (b : Text) : Keeps s (exchangeStart tag b s).1 := by
  unfold exchangeStart
  split
  · exact .refl s
  · split
    · exact .refl s
    · split
      · exact .refl s
      · split
        · exact .refl s
        · exact keeps_openSession ..

theorem keeps_exchangeAbort : Keeps s (exchangeAbort s).1 := by
  unfold exchangeAbort
  split
  · exact .refl s
  · exact keeps_failSession ..

theorem keeps_cutoverRequest {f : State → State × Reply} (hf : Keeps s (f s).1) : Keeps s (cutoverRequest f s).1 := by
  unfold cutoverRequest
  split
  · exact .refl s
  · split
    · exact .refl s
    · exact hf

theorem keeps_cutoverAt (tag : Nat) (a : CutoverAtArgs) : Keeps s (cutoverAt tag a s).1 := by
  refine keeps_cutoverRequest s ?_
  split
  · dsimp only
    exact keeps_onCutover ..
  · unfold cutoverStarts
    dsimp only
    exact keeps_startCutover ..

theorem keeps_cutoverNow (tag : Nat) (d : Option Nat) : Keeps s (cutoverNow tag d s).1 := by
  refine keeps_cutoverRequest s ?_
  unfold cutoverStarts
  dsimp only
  exact keeps_startCutover ..

/-! ### The port's own requests and events (11) -/

theorem keeps_clockSet (t : Nat) : Keeps s (clockSet t s).1 :=
  .trans (t := setClock t s) {} ((((keeps_uncool _).trans (keeps_judgeAllLags _)).trans (keeps_takeAllGuestEvents _)).trans (keeps_scheduleDue _))

theorem keeps_faultRead (d : Nat) : Keeps s (faultRead d s).1 := by
  unfold faultRead
  split <;> exact .refl s

theorem keeps_faultClear (a : FaultClearArgs) : Keeps s (faultClear a s).1 := by
  unfold faultClear
  split
  · exact .refl s
  · split
    · exact .refl s
    · split
      · exact .refl s
      · exact keeps_clearFault ..

theorem keeps_resetFrame (tag : Nat) (kind : Option Nat) : CommandKeeps s (resetFrame tag kind s) := by
  unfold resetFrame
  split
  · split
    · rename_i k _ hc
      exact .trans (t := { s with msp := { s.msp with resetTaken := s.msp.resetTaken.or (some k) } }) {}
        (keeps_addReply _ _ _ (by decide) (canTake_iff.mp hc).2)
    · exact keeps_hostRequest s (.refl s)
  · exact keeps_hostRequest s (.refl s)

theorem keeps_hostReads : CommandKeeps s (hostReads s) := by
  unfold hostReads
  split
  · rename_i r rest hr
    have hread : CommandKeeps s (sendHost (.reply r.tag r.reply) { s with msp := { s.msp with replies := rest } }) := by
      refine { replies := fun h => ?_ }
      simp only [State.repliesBounded, MessagePort.unreplied, MessagePort.immediates, hr] at h
      exact ⟨(List.Sublist.length_le ((List.sublist_cons_self r rest).filter _)).trans h.1,
        (List.Sublist.length_le ((List.sublist_cons_self r rest).filter _)).trans h.2⟩
    unfold readReply
    dsimp only
    split
    · refine hread.trans (Keeps.toCommand ?_)
      unfold beginReset
      split
      · exact keeps_power ..
      · exact .refl _
    · exact hread
  · rename_i r rest _ hr
    refine { reports := fun h => ?_ }
    rw [State.reportsBounded, hr] at h
    exact (Nat.le_succ _).trans h
  · exact (keeps_sendHost ..).toCommand

theorem keeps_tick : Keeps s (tick s) :=
  .trans (t := { s with msp := { s.msp with clock := { s.msp.clock with reading := bump max32 s.now, elapsed := s.elapsed + 1 } } }) {}
    (.ite (fun _ => keeps_onLrc {}) fun _ => .refl _)

end Sys2Proof.Machine
end

section
/-! What the starts keep, and every command; the statements about every step. -/
-- A theorem that uses a default proof of `Keeps` waits for all the theorems before it; elaborated one after another they need no threads of their own.
set_option Elab.async false

namespace Sys2Proof.Machine

variable (s : State)

/-! ### Cold values (R23, R63, R103, R117, R134, R146, R157) -/

section Cold

variable {s : State}

theorem tget_replicate {α : Type} (n i : Nat) (x : α) : tget (Vector.replicate n x) i x = x := by
  unfold tget
  rcases Nat.lt_or_ge i n with h | h
  · simp [h]
  · simp [h]

theorem itemsOrdered_cold (h : s.itb = .cold) : s.itemsOrdered := by
  rw [State.itemsOrdered, h]
  exact ⟨List.Pairwise.nil, Nat.zero_le _, fun _ h => absurd h List.not_mem_nil⟩

theorem itemsSound_cold (h : s.itb = .cold) : s.itemsSound := by
  rw [State.itemsSound, h]
  exact fun _ h => absurd h List.not_mem_nil

theorem labelsOrdered_cold (h : s.lrc = .cold) : s.labelsOrdered := by
  rw [State.labelsOrdered, h]
  exact ⟨List.Pairwise.nil, fun _ h => absurd h List.not_mem_nil⟩

theorem guestsOrdered_cold (h : s.gat = .cold) : s.guestsOrdered := by
  rw [State.guestsOrdered, h]
  exact ⟨List.Pairwise.nil, Nat.zero_le _⟩

theorem queuesBounded_cold (hz : s.zfw = .cold) (hu : s.uls = .cold) : s.queuesBounded := by
  rw [State.queuesBounded, hz, hu]
  exact ⟨fun p => by cases p <;> exact Nat.zero_le _, fun c => by cases c <;> exact Nat.zero_le _⟩

theorem basketsBounded_cold (h : s.tsu.baskets = TillService.cold.baskets) : s.basketsBounded := fun b hb => by
  rw [h] at hb
  obtain rfl := Vector.eq_of_mem_replicate (Vector.mem_toList_iff.mp hb)
  exact Basket.bounded_nil rfl

theorem sessionsSettled_cold (h : s.tsu.sessions = TillService.cold.sessions) : s.sessionsSettled := fun lane _ hp => by
  have hcold : s.session lane = Session.cold := by
    rw [State.session, h]
    exact tget_replicate ..
  rw [hcold] at hp
  cases hp

theorem cellsFixed_cold (h : s.zfw = .cold) : s.cellsFixed := fun src dst => by
  rw [h]
  cases src <;> cases dst <;> decide

theorem flagsSingle_cold (h : s.zfw = .cold) : s.flagsSingle := by
  have hclear (i : Nat) : s.zfw.range i = RangeEntry.cleared := by
    rw [h]
    exact tget_replicate ..
  simp only [State.flagsSingle, hclear]
  exact ⟨fun _ _ _ _ h => (nomatch h), fun _ _ _ _ h => (nomatch h), fun _ _ => ⟨fun h => (nomatch h), fun h => (nomatch h)⟩⟩

theorem settingsInRange_cold (hi : s.itb = .cold) (ht : s.tsu = .cold) (hl : s.lrc = .cold) (hg : s.gat = .cold) (hu : s.uls = .cold)
    (hx : s.xce = .cold) : s.settingsInRange := by
  rw [State.settingsInRange, hi, ht, hl, hg, hu, hx]
  refine ⟨by decide, fun b => ?_, by decide, by decide, by decide, by decide, by decide, ?_, ?_, nofun⟩
  · rw [show tget ItemTable.cold.rates b 0 = 0 from tget_replicate ..]
    exact Nat.zero_le _
  · intro c; cases c <;> decide
  · intro c; cases c <;> decide

theorem baseStands_cold (h : s.tps = .cold) : s.baseStands := by
  rw [State.baseStands, h]
  decide

end Cold

/-! ### The starts (R188 to R190) -/

theorem keeps_logRetained (p : Option RetainedPart) : Keeps s (logRetained p s) := by
  unfold logRetained
  split
  · exact keeps_logFault ..
  · exact .refl s

theorem keeps_coldStart (cause : StartCause) (result : RetainedResult) (failing : Option RetainedPart) :
    CommandKeeps s (coldStart cause result failing s) := by
  unfold coldStart
  refine CommandKeeps.trans ?_ (keeps_logRetained ..).toCommand
  exact {
    reports := fun _ => by simp [State.reportsBounded, MessagePort.started]
    replies := fun _ => by simp [State.repliesBounded, MessagePort.started, MessagePort.unreplied, MessagePort.immediates]
    queues := fun _ => queuesBounded_cold rfl rfl
    items := fun _ => itemsOrdered_cold rfl
    sound := fun _ => itemsSound_cold rfl
    labels := fun _ => labelsOrdered_cold rfl
    guests := fun _ => guestsOrdered_cold rfl
    baskets := fun _ => basketsBounded_cold rfl
    sessions := fun _ => sessionsSettled_cold rfl
    cells := fun _ => cellsFixed_cold rfl
    flags := fun _ => flagsSingle_cold rfl
    settings := fun _ => settingsInRange_cold rfl rfl rfl rfl rfl rfl
    base := fun _ => baseStands_cold rfl }

theorem keeps_warmTills : Keeps s { s with tsu := s.tsu.warm } := by
  refine keeps_tsu s (hb := fun h b hb => ?_) (hs := fun _ => sessionsSettled_cold rfl)
  simp only [TillService.warm, Vector.mem_toList_iff, Vector.mem_map] at hb
  obtain ⟨a, ha, rfl⟩ := hb
  exact h a (Vector.mem_toList_iff.mpr ha)

theorem keeps_warmTemplates : Keeps s { s with tps := s.tps.warm } := (keeps_cancel s).trans (keeps_walks _ _)

theorem keeps_warmForwarder : Keeps s { s with zfw := s.zfw.warm } :=
  keeps_zfw s fun _ p => by cases p <;> exact Nat.zero_le _

theorem keeps_warmUplink : Keeps s { s with uls := s.uls.warm } :=
  keeps_uls s fun _ c => by cases c <;> exact Nat.zero_le _

theorem keeps_coldGuests : Keeps s { s with gat := .cold } where
  guests _ := guestsOrdered_cold rfl
  settings := fun ⟨hlag, hrates, hpoll, hwin, hretry, hpres, _, hrest⟩ => ⟨hlag, hrates, hpoll, hwin, hretry, hpres, (by decide : 60 ≤ 900 ∧ 900 ≤ 3600), hrest⟩

/-- The blocks that keep nothing volatile over a loss of power or a warm start, each at its warm state. -/
theorem keeps_warmed : Keeps s { s with
    tsu := s.tsu.warm, jnl := s.jnl.warm, tps := s.tps.warm, zfw := s.zfw.warm, gat := .cold, uls := s.uls.warm } :=
  (((((keeps_warmTills s).trans (keeps_jnl _ _)).trans (keeps_warmTemplates _)).trans (keeps_warmForwarder _)).trans
    (keeps_coldGuests _)).trans (keeps_warmUplink _)

theorem keeps_warmBlocks (kind : StartKind) (cause : StartCause) : CommandKeeps s (warmBlocks kind cause s) := by
  have hport (u : State) (x : Exchange) (hx : x.blockSize = u.xce.blockSize) : CommandKeeps u { u with
      xce := x, msp := MessagePort.started kind cause .passed s.msp.clock, power := .running, out := .none } :=
    { reports := fun _ => by simp [State.reportsBounded, MessagePort.started]
      replies := fun _ => by simp [State.repliesBounded, MessagePort.started, MessagePort.unreplied, MessagePort.immediates]
      settings := by
        simp only [State.settingsInRange, hx]
        exact id }
  exact ((keeps_warmed s).trans (keeps_lrc (LabelRadio.keeps_warm s.now s.lrc))).toCommand.trans (hport _ s.xce.warm rfl)

theorem keeps_resumeCutover : Keeps s (resumeCutover s) := by
  unfold resumeCutover
  dsimp only
  split
  · exact .refl s
  · exact keeps_scheduleDue s
  · exact keeps_startCutover ..
  · exact .refl s
  · exact keeps_finishCutover s

theorem keeps_warmStart (kind : StartKind) (cause : StartCause) (mem : MemFaults) : CommandKeeps s (warmStart kind cause mem s) := by
  have hrestart (u : State) : Keeps u (reportRestart s.xce.session u) := .ite (fun _ => .refl u) fun _ => keeps_report ..
  unfold warmStart
  refine (keeps_warmBlocks s kind cause).trans (Keeps.toCommand ?_)
  refine (((keeps_judgeHighWater _).trans (hrestart _)).trans (keeps_judgeAllLags _)).trans ?_
  exact .ite (fun _ => keeps_resumeCutover _) fun _ => (keeps_resumeCutover _).trans (keeps_serveTills ..)

theorem keeps_checkedStart (kind : StartKind) (cause : StartCause) (memory : RetainedMemory) (mem : MemFaults) :
    CommandKeeps s (checkedStart kind cause memory mem s) := by
  unfold checkedStart
  split
  · exact keeps_warmStart ..
  · exact keeps_coldStart ..
  · exact keeps_coldStart ..

theorem keeps_requestedStart (memory : RetainedMemory) (mem : MemFaults) : CommandKeeps s (requestedStart memory mem s) := by
  unfold requestedStart
  split
  · exact keeps_coldStart ..
  · exact keeps_checkedStart ..
  · exact (Keeps.refl s).toCommand

theorem keeps_losePower : CommandKeeps s (losePower s) := by
  have hport (u : State) : CommandKeeps u { u with msp := s.msp.unpowered, power := .off, out := .none } :=
    { reports := fun _ => Nat.zero_le _, replies := fun _ => ⟨Nat.zero_le _, Nat.zero_le _⟩ }
  exact (keeps_warmed s).toCommand.trans (hport _)

/-! ### Every command -/

theorem keeps_running {f : State → State} (hf : ∀ s, Keeps s (f s)) : CommandKeeps s (whileRunning f s) := (keeps_whileRunning s hf).toCommand

/-- What every command keeps, whatever the state it meets. -/
theorem exec_keeps (c : Instr) : ∃ t, exec c s = .next t ∧ CommandKeeps s t := by
  cases c
  case itemPut mem => exact ⟨_, rfl, keeps_request s fun a => keeps_itemPut s a mem⟩
  case itemPrice mem => exact ⟨_, rfl, keeps_request s fun a => keeps_withItem s fun r hr => keeps_itemPrice s a mem hr⟩
  case itemDelete mem => exact ⟨_, rfl, keeps_request s fun a => keeps_withItem s fun r _ => keeps_itemDelete s mem r⟩
  case itemGet mem => exact ⟨_, rfl, keeps_request s fun a => keeps_withItem s fun r _ => keeps_checkItem s mem r.code⟩
  case itemBlock => exact ⟨_, rfl, keeps_request s fun a => keeps_withItem s fun r hr => keeps_putItem hr⟩
  case itemUnblock => exact ⟨_, rfl, keeps_request s fun a => keeps_withItem s fun r hr => keeps_putItem hr⟩
  case lagAccept mem => exact ⟨_, rfl, keeps_request s fun a => keeps_withItem s fun r hr => keeps_lagAccept s mem hr⟩
  case taxSet => exact ⟨_, rfl, keeps_request s fun a => keeps_taxSet s a⟩
  case priceParams => exact ⟨_, rfl, keeps_request s fun a => keeps_priceParams s a⟩
  case rosterSet => exact ⟨_, rfl, keeps_request s fun a => keeps_rosterSet s a⟩
  case tillStatus => exact ⟨_, rfl, keeps_request s fun a => keeps_withLane s (keeps_tillStatus s a)⟩
  case tillLockout => exact ⟨_, rfl, keeps_request s fun a => keeps_withLane s (keeps_tillLockout s a)⟩
  case tillRelease => exact ⟨_, rfl, keeps_request s fun a => keeps_withLane s (keeps_tillRelease s a)⟩
  case tillClear mem => exact ⟨_, rfl, keeps_request s fun a => keeps_withLane s (keeps_tillClear s mem a)⟩
  case tillParams mem => exact ⟨_, rfl, keeps_request s fun a => keeps_tillParams s mem a⟩
  case journalStatus => exact ⟨_, rfl, keeps_bareRequest s (.refl s)⟩
  case journalRead mem => exact ⟨_, rfl, keeps_request s fun a => keeps_journalRead s mem a⟩
  case labelAdd => exact ⟨_, rfl, keeps_request s fun a => keeps_withLabel s fun ha => keeps_labelAdd s a ha⟩
  case labelBind =>
    refine ⟨_, rfl, keeps_request s fun a => ?_⟩
    split
    · exact keeps_withLabel s fun ha => keeps_labelBind s a ha
    · exact .refl s
  case labelUnbind => exact ⟨_, rfl, keeps_request s fun a => keeps_withEntry s fun e _ => keeps_labelUnbind s e⟩
  case labelRemove => exact ⟨_, rfl, keeps_request s fun a => keeps_withEntry s fun e _ => keeps_labelRemove s e⟩
  case labelGet => exact ⟨_, rfl, keeps_request s fun a => keeps_labelGet s a⟩
  case railSet => exact ⟨_, rfl, keeps_request s fun a => keeps_railSet s a⟩
  case labelParams => exact ⟨_, rfl, keeps_request s fun a => keeps_labelParams s a⟩
  case templateBegin => exact ⟨_, rfl, keeps_request s fun a => keeps_templateBegin s a⟩
  case templateElement => exact ⟨_, rfl, keeps_request s fun a => keeps_templateElement s a⟩
  case templateEnd => exact ⟨_, rfl, keeps_bareRequest s (keeps_templateEnd s)⟩
  case templateCancel => exact ⟨_, rfl, keeps_bareRequest s (keeps_templateCancel s)⟩
  case templateDelete => exact ⟨_, rfl, keeps_request s fun a => keeps_templateDelete s a⟩
  case templateKeep => exact ⟨_, rfl, keeps_request s fun a => keeps_templateKeep s a⟩
  case templateTemp => exact ⟨_, rfl, keeps_request s fun a => keeps_templateTemp s a⟩
  case overlaySet => exact ⟨_, rfl, keeps_request s fun a => keeps_overlaySet s a⟩
  case overlayClear => exact ⟨_, rfl, keeps_request s fun a => keeps_overlayClear s a⟩
  case rangeSet => exact ⟨_, rfl, keeps_request s fun a => keeps_rangeSet s a⟩
  case rangeClear => exact ⟨_, rfl, keeps_request s fun a => keeps_rangeClear s a⟩
  case policySet => exact ⟨_, rfl, keeps_request s fun a => keeps_policySet s a⟩
  case kindSet => exact ⟨_, rfl, keeps_request s fun a => keeps_kindSet s a⟩
  case hintSet => exact ⟨_, rfl, keeps_request s fun a => keeps_hintSet s a⟩
  case portalSet => exact ⟨_, rfl, keeps_request s fun a => keeps_portalSet s a⟩
  case guestService => exact ⟨_, rfl, keeps_request s fun a => keeps_guestService s a⟩
  case guestAdmit => exact ⟨_, rfl, keeps_request s fun a => keeps_guestAdmit s a⟩
  case guestBar => exact ⟨_, rfl, keeps_request s fun a => keeps_guestBar s a⟩
  case guestEnd => exact ⟨_, rfl, keeps_request s fun a => keeps_guestEnd s a⟩
  case guestGet => exact ⟨_, rfl, keeps_request s fun a => keeps_guestGet s a⟩
  case profileSet => exact ⟨_, rfl, keeps_request s fun a => keeps_profileSet s a⟩
  case uplinkStatus => exact ⟨_, rfl, keeps_bareRequest s (.refl s)⟩
  case blockSize => exact ⟨_, rfl, keeps_request s fun a => keeps_blockSize s a⟩
  case exchangeStart tag _ => exact ⟨_, rfl, keeps_request s fun a => keeps_exchangeStart s tag a⟩
  case exchangeAbort => exact ⟨_, rfl, keeps_bareRequest s (keeps_exchangeAbort s)⟩
  case exchangeStatus => exact ⟨_, rfl, keeps_bareRequest s (.refl s)⟩
  case cutoverAt tag _ => exact ⟨_, rfl, keeps_request s fun a => keeps_cutoverAt s tag a⟩
  case cutoverNow tag _ => exact ⟨_, rfl, keeps_request s fun a => keeps_cutoverNow s tag a⟩
  case clockSet => exact ⟨_, rfl, keeps_request s fun a => keeps_clockSet s a⟩
  case identify => exact ⟨_, rfl, keeps_bareRequest s (.refl s)⟩
  case faultRead => exact ⟨_, rfl, keeps_request s fun a => keeps_faultRead s a⟩
  case faultClear => exact ⟨_, rfl, keeps_request s fun a => keeps_faultClear s a⟩
  case reset => exact ⟨_, rfl, keeps_resetFrame ..⟩
  case unknownKind =>
    refine ⟨_, rfl, ?_⟩
    split
    · exact keeps_refuseAtOnce ..
    · exact (Keeps.refl s).toCommand
  case frameError => exact ⟨_, rfl, (Keeps.ite (fun _ => keeps_frameErrorSeen ..) fun _ => .refl s).toCommand⟩
  case hostRead =>
    refine ⟨_, rfl, ?_⟩
    rcases whileRunning_cases hostReads s with ⟨-, h⟩ | ⟨-, h⟩
    · rw [h]; exact keeps_hostReads s
    · rw [h]; exact (Keeps.refl s).toCommand
  case powerOn =>
    refine ⟨_, rfl, ?_⟩
    split
    · exact keeps_checkedStart ..
    · exact (Keeps.refl s).toCommand
  case resetRequest => exact ⟨_, rfl, keeps_requestedStart ..⟩
  case branchClockTick => exact ⟨_, rfl, (keeps_tick s).toCommand⟩
  case lagDue code => exact ⟨_, rfl, keeps_running s fun s => keeps_judgeLag s code⟩
  case laneJoin => exact ⟨_, rfl, (keeps_joinFrame ..).toCommand⟩
  case laneStatus => exact ⟨_, rfl, (keeps_statusFrame ..).toCommand⟩
  case laneOpen => exact ⟨_, rfl, (keeps_openFrame ..).toCommand⟩
  case laneAsk => exact ⟨_, rfl, (keeps_askFrame ..).toCommand⟩
  case laneVoid => exact ⟨_, rfl, (keeps_voidFrame ..).toCommand⟩
  case laneClose => exact ⟨_, rfl, (keeps_closeFrame ..).toCommand⟩
  case laneCancel => exact ⟨_, rfl, (keeps_cancelFrame ..).toCommand⟩
  case laneMessageMalformed => exact ⟨_, rfl, (keeps_malformedFrame s).toCommand⟩
  case pollTime lane => exact ⟨_, rfl, keeps_running s fun s => keeps_pollIfDue s lane⟩
  case reconnectExpiry lane mem =>
    exact ⟨_, rfl, keeps_running s fun s => .ite (fun _ => keeps_judgeWindow s mem lane) fun _ => .refl s⟩
  case abandonRetry lane mem =>
    exact ⟨_, rfl, keeps_running s fun s => .ite (fun _ => keeps_retryAbandon s mem lane) fun _ => .refl s⟩
  case radioFrame mem => exact ⟨_, rfl, keeps_running s fun s => .ite (fun _ => keeps_beginFrame s mem) fun _ => .refl s⟩
  case radioHandoverFail x => exact ⟨_, rfl, keeps_running s fun s => keeps_handoverFails s x⟩
  case labelAck slot answer => exact ⟨_, rfl, keeps_running s fun s => keeps_slotAnswer s slot answer⟩
  case railPollAnswer b => exact ⟨_, rfl, keeps_running s fun s => keeps_pollAnswer s b⟩
  case radioFrameEnd => exact ⟨_, rfl, keeps_running s keeps_endFrame⟩
  case definitionTimeout => exact ⟨_, rfl, keeps_running s keeps_expireDefinition⟩
  case templateWalkStep => exact ⟨_, rfl, keeps_running s keeps_templateWalk⟩
  case frameForward port f mem => exact ⟨_, rfl, keeps_running s fun s => keeps_frameArrives s port f mem⟩
  case egressPortReady port found => exact ⟨_, rfl, keeps_running s fun s => keeps_portReady s port found⟩
  case wanReady => exact ⟨_, rfl, keeps_running s keeps_arbitrate⟩
  case payDropIntervalEnd => exact ⟨_, rfl, keeps_running s keeps_payDropEnds⟩
  case guestIdle hw => exact ⟨_, rfl, keeps_running s fun s => keeps_takeIdle s hw⟩
  case guestExpiry hw => exact ⟨_, rfl, keeps_running s fun s => keeps_takeExpiry s hw⟩
  case guestCooldownEnd hw => exact ⟨_, rfl, keeps_running s fun s => keeps_takeCooldownEnd s hw⟩
  case accept n mem => exact ⟨_, rfl, keeps_running s fun s => keeps_takeAccept s n mem⟩
  case jack n k mem => exact ⟨_, rfl, keeps_running s fun s => keeps_takeJack s n k mem⟩
  case bhead n batch epoch count check => exact ⟨_, rfl, keeps_running s fun s => keeps_takeBhead s n ⟨batch, epoch, count, check⟩⟩
  case bpart n part es last => exact ⟨_, rfl, keeps_running s fun s => keeps_takeBpart s n part es last⟩
  case peerAbort n _ => exact ⟨_, rfl, keeps_running s fun s => keeps_takeAbort s n⟩
  case strayDatagram => exact ⟨_, rfl, keeps_running s keeps_strayed⟩
  case helloTimeout => exact ⟨_, rfl, keeps_running s keeps_helloExpires⟩
  case uploadIntervalExpiry mem => exact ⟨_, rfl, keeps_running s fun s => keeps_uploadExpires s mem⟩
  case backResend => exact ⟨_, rfl, keeps_running s keeps_backAgain⟩
  case partTimeout => exact ⟨_, rfl, keeps_running s keeps_partExpires⟩
  case stagingPass1Step mem => exact ⟨_, rfl, keeps_running s fun s => keeps_stagingPass1 s mem⟩
  case stagingPass2Step mem => exact ⟨_, rfl, keeps_running s fun s => keeps_stagingPass2 s mem⟩
  case abortWalkStep mem => exact ⟨_, rfl, keeps_running s fun s => keeps_abortWalk s mem⟩
  case cutoverScheduleDue => exact ⟨_, rfl, keeps_running s keeps_scheduleDue⟩
  case drainLimitExpiry => exact ⟨_, rfl, keeps_running s keeps_drainExpires⟩
  case applyWalkStep mem => exact ⟨_, rfl, keeps_running s fun s => keeps_applyWalk s mem⟩
  case mainPowerLoss => exact ⟨_, rfl, keeps_losePower s⟩

/-- What one step keeps: its command meets the state with the rest of the queue. -/
theorem step_keeps {s t : State} (h : step s = .next t) :
    ∃ rest, CommandKeeps { s with pending := rest } t := by
  unfold step at h
  split at h
  · rename_i hnil
    cases h
    exact ⟨s.pending, (Keeps.refl s).toCommand⟩
  · rename_i c rest _
    obtain ⟨u, hu, hkeeps⟩ := exec_keeps { s with pending := rest } c
    rw [hu] at h
    cases h
    exact ⟨rest, hkeeps⟩

/-! ### A part without power (R189) -/

/-- Without main power every command but the tick, a further loss of power and POWER_ON does nothing. -/
theorem exec_off {c : Instr} (h : s.power = .off) (htick : c ≠ .branchClockTick) (hloss : c ≠ .mainPowerLoss)
    (hon : ∀ k m, c ≠ .powerOn k m) : exec c s = .next s := by
  have hdeaf : s.takesFrames = false := by rw [State.takesFrames, h]; decide
  have hoff : s.power ≠ .running := by rw [h]; decide
  have hreq (tag : Nat) (f : State → State × Reply) : hostRequest tag f s = s := hostRequest_deaf tag f hdeaf
  have hrun (f : State → State) : whileRunning f s = s := whileRunning_off f hoff
  cases c
  case branchClockTick => exact absurd rfl htick
  case mainPowerLoss => exact absurd rfl hloss
  case powerOn k m => exact absurd rfl (hon k m)
  case resetRequest => simp only [exec, execResetRequest, requestedStart, h]
  case reset kind =>
    have hcan : s.canTake = false := by rw [State.canTake, hdeaf]; rfl
    simp only [exec, execReset, resetFrame, hcan, hreq]
    split <;> rfl
  case unknownKind => simp only [exec, execUnknownKind, hdeaf]; rfl
  case frameError => simp only [exec, execFrameError, hdeaf]; rfl
  all_goals first | exact congrArg _ (hreq _ _) | exact congrArg _ (hrun _)

end Sys2Proof.Machine

namespace Sys2Proof.Proofs

open Sys2Proof.Machine

/-- Settles O5: every command keeps the bounds of the queues. -/
theorem stepKeepsEveryQueueWithinItsCapacity : Obligations.StepKeepsEveryQueueWithinItsCapacity := by
  intro s t hreports hreplies hqueues hstep
  obtain ⟨_, h⟩ := step_keeps hstep
  exact ⟨h.reports hreports, h.replies hreplies, h.queues hqueues⟩

/-- Settles O6: every command keeps the orders of the tables. -/
theorem stepKeepsTheTablesOrdered : Obligations.StepKeepsTheTablesOrdered := by
  intro s t hstep
  obtain ⟨_, h⟩ := step_keeps hstep
  exact ⟨h.items, h.labels, h.guests⟩

/-- Settles O7: every command keeps the item records sound. -/
theorem stepKeepsPreviousWhileLabelsPend : Obligations.StepKeepsPreviousWhileLabelsPend := by
  intro s t hsound hstep
  obtain ⟨_, h⟩ := step_keeps hstep
  exact h.sound hsound

/-- Settles O8: every command keeps the limits of the baskets and the settled sessions. -/
theorem stepKeepsBasketsAndSessionsSound : Obligations.StepKeepsBasketsAndSessionsSound := by
  intro s t hstep
  obtain ⟨_, h⟩ := step_keeps hstep
  exact ⟨h.baskets, h.sessions⟩

/-- Settles O9: every command keeps the fixed cells, the single flags and the ranges of the settings. -/
theorem stepKeepsFixedCellsFlagsAndSettings : Obligations.StepKeepsFixedCellsFlagsAndSettings := by
  intro s t hstep
  obtain ⟨_, h⟩ := step_keeps hstep
  exact ⟨h.cells, h.flags, h.settings⟩

/-- Settles O10: every command keeps slot 0 present and PERMANENT. -/
theorem stepKeepsTheBaseTemplate : Obligations.StepKeepsTheBaseTemplate := by
  intro s t hbase hstep
  obtain ⟨_, h⟩ := step_keeps hstep
  exact h.base hbase

/-- Settles O2: no command touches the queue, and a part without power is deaf to all but three of them. -/
theorem commandsLeaveTheQueueAndADeadPartAlone : Obligations.CommandsLeaveTheQueueAndADeadPartAlone := by
  refine ⟨fun c s t h => ?_, fun c s hoff htick hloss hon => exec_off s hoff htick hloss hon⟩
  obtain ⟨u, hu, hkeeps⟩ := exec_keeps s c
  rw [hu] at h
  cases h
  exact hkeeps.pending

/-- Settles O1: by definition of a step on a queue that is not empty. -/
theorem stepRunsTheFrontCommand : Obligations.StepRunsTheFrontCommand := by
  intro c rest s h
  rw [step, h]

/-- Settles O4: the reset state is cold in every block, and holds one report. -/
theorem resetIsSound : Obligations.ResetIsSound :=
  ⟨(by decide : 1 ≤ 64), (by decide : 0 ≤ 8 ∧ 0 ≤ 8), queuesBounded_cold rfl rfl, itemsOrdered_cold rfl, labelsOrdered_cold rfl, guestsOrdered_cold rfl,
   itemsSound_cold rfl, basketsBounded_cold rfl, sessionsSettled_cold rfl, cellsFixed_cold rfl, flagsSingle_cold rfl,
   settingsInRange_cold rfl rfl rfl rfl rfl rfl, baseStands_cold rfl⟩

end Sys2Proof.Proofs
end

section
/-! What the operations on the label directory do to the entry at an address: a cause, a lost binding, a list of either. -/

namespace Sys2Proof.Machine

/-! ### One cause -/

/-- What a cause makes of the entry that it reaches (R85). -/
def LabelEntry.caused (r : Reason) (e : LabelEntry) : LabelEntry :=
  match e.state with
  | .new => { e with owed := some (raise e.owed r) }
  | .queued => { e with owed := some (raise e.owed r) }
  | .idle => { e with state := .queued, owed := some r }
  | .sent => { e with requeue := some (raise e.requeue r), lastSend := if r = .bind then none else e.lastSend }
  | .missing => { e with owed := some (raise e.owed r) }

/-- The entry of a label that loses its item (R86). -/
def LabelEntry.unbound (e : LabelEntry) : LabelEntry := LabelEntry.caused .bind { e with item := none, excluded := false }

/-- What no cause changes of an entry. -/
structure LabelEntry.SameBinding (e f : LabelEntry) : Prop where
  addr : f.addr = e.addr
  item : f.item = e.item
  template : f.template = e.template
  confirmed : f.confirmed = e.confirmed
  excluded : f.excluded = e.excluded

theorem LabelEntry.caused_sameBinding (r : Reason) (e : LabelEntry) : e.SameBinding (e.caused r) := by
  unfold LabelEntry.caused
  split <;> exact ⟨rfl, rfl, rfl, rfl, rfl⟩

theorem LabelEntry.SameBinding.trans {e f g : LabelEntry} (h : e.SameBinding f) (k : f.SameBinding g) : e.SameBinding g :=
  ⟨k.addr.trans h.addr, k.item.trans h.item, k.template.trans h.template, k.confirmed.trans h.confirmed, k.excluded.trans h.excluded⟩

theorem LabelEntry.iterate_caused_sameBinding (r : Reason) (n : Nat) (e : LabelEntry) : e.SameBinding ((LabelEntry.caused r)^[n] e) :=
  Function.Iterate.rec (fun f => e.SameBinding f) ⟨rfl, rfl, rfl, rfl, rfl⟩ (fun f hf => hf.trans (f.caused_sameBinding r)) n

theorem LabelEntry.unbound_spec (e : LabelEntry) : e.unbound.addr = e.addr ∧ e.unbound.item = none ∧ e.unbound.excluded = false ∧
    e.unbound.template = e.template ∧ e.unbound.confirmed = e.confirmed :=
  have h := LabelEntry.caused_sameBinding .bind { e with item := none, excluded := false }
  ⟨h.addr, h.item, h.excluded, h.template, h.confirmed⟩

/-- Causes of one reason leave a label that is queued for that reason so. -/
theorem LabelEntry.iterate_caused_of_queued {r : Reason} (n : Nat) {e : LabelEntry} (hs : e.state = .queued) (ho : e.owed = some r) :
    ((LabelEntry.caused r)^[n] e).state = .queued ∧ ((LabelEntry.caused r)^[n] e).owed = some r := by
  refine Function.Iterate.rec (fun f : LabelEntry => f.state = .queued ∧ f.owed = some r) ⟨hs, ho⟩ ?_ n
  rintro f ⟨hs, ho⟩
  have hmax : r.max r = r := by cases r <;> rfl
  simp [LabelEntry.caused, hs, ho, raise, hmax]

/-- Causes of one reason queue an idle label with that reason. -/
theorem LabelEntry.iterate_caused_of_idle {r : Reason} {n : Nat} {e : LabelEntry} (he : e.state = .idle) (hn : 0 < n) :
    ((LabelEntry.caused r)^[n] e).state = .queued ∧ ((LabelEntry.caused r)^[n] e).owed = some r := by
  obtain ⟨k, rfl⟩ := Nat.exists_eq_succ_of_ne_zero hn.ne'
  rw [Function.iterate_succ_apply]
  exact LabelEntry.iterate_caused_of_queued k (by simp [LabelEntry.caused, he]) (by simp [LabelEntry.caused, he])

namespace LabelRadio

variable {l : LabelRadio} {e : LabelEntry} {a b : LabelAddr}

/-! ### The entry at an address after one operation -/

theorem addrKey_of_entry (h : l.entry a = some e) : addrKey e.addr = addrKey a := findKey_key LabelEntry.key h

theorem entry_congr (h : addrKey a = addrKey b) : l.entry a = l.entry b := by unfold LabelRadio.entry; rw [h]

theorem entry_put (l : LabelRadio) (e : LabelEntry) (b : LabelAddr) :
    (l.put e).entry b = if addrKey b = addrKey e.addr then some e else l.entry b := by
  split
  · next h => rw [entry_congr h]; exact findKey_putKey_same LabelEntry.key e l.directory
  · next h => exact findKey_putKey_ne LabelEntry.key e l.directory h

@[simp] theorem entry_join (now : Nat) (a : LabelAddr) (r : Reason) (k : Attempt) (l : LabelRadio) (b : LabelAddr) :
    (l.join now a r k).entry b = l.entry b := rfl

@[simp] theorem entry_leave (a : LabelAddr) (l : LabelRadio) (b : LabelAddr) : (l.leave a).entry b = l.entry b := rfl

@[simp] theorem entry_setReason (a : LabelAddr) (r : Reason) (l : LabelRadio) (b : LabelAddr) : (l.setReason a r).entry b = l.entry b := rfl

theorem entry_create (now : Nat) (a : LabelAddr) (i : Option Nat) (n : Nat) (l : LabelRadio) (b : LabelAddr) :
    (l.create now a i n).entry b = if addrKey b = addrKey a then some (.fresh a i n) else l.entry b := entry_put ..

/-- An entry found at an address, rewritten and put back, is what stands there; every other stays. -/
theorem entry_put_of_entry {f : LabelEntry} (h : l.entry a = some e) (hf : f.addr = e.addr) (b : LabelAddr) :
    (l.put f).entry b = if addrKey b = addrKey a then some f else l.entry b := by
  rw [entry_put, hf, addrKey_of_entry h]

theorem entry_cause (now : Nat) (r : Reason) (a : LabelAddr) (l : LabelRadio) (b : LabelAddr) :
    (l.cause now r a).entry b = if addrKey b = addrKey a then (l.entry b).map (LabelEntry.caused r) else l.entry b := by
  unfold LabelRadio.cause
  cases h : l.entry a with
  | none =>
    by_cases hb : addrKey b = addrKey a
    · simp [entry_congr hb, h]
    · simp [hb]
  | some e =>
    have key : ∀ f : LabelEntry, f.addr = e.addr → f = e.caused r → (l.put f).entry b =
        if addrKey b = addrKey a then (l.entry b).map (LabelEntry.caused r) else l.entry b := by
      intro f hf hc
      rw [entry_put_of_entry h hf]
      split
      · next hb => rw [entry_congr hb, h, hc]; rfl
      · rfl
    unfold LabelEntry.caused at key
    dsimp only
    cases hs : e.state <;> exact key _ rfl (by rw [hs])

/-- A cause writes the directory and the queue alone. -/
theorem cause_frame (now : Nat) (r : Reason) (a : LabelAddr) (l : LabelRadio) :
    l.cause now r a = { l with
      directory := (l.cause now r a).directory, queue := (l.cause now r a).queue, nextSerial := (l.cause now r a).nextSerial } := by
  unfold LabelRadio.cause
  split
  · rfl
  · split <;> rfl

theorem entry_loseItem (now : Nat) (a : LabelAddr) (l : LabelRadio) (b : LabelAddr) :
    (l.loseItem now a).entry b = if addrKey b = addrKey a then (l.entry b).map LabelEntry.unbound else l.entry b := by
  unfold LabelRadio.loseItem
  cases h : l.entry a with
  | none =>
    by_cases hb : addrKey b = addrKey a
    · simp [entry_congr hb, h]
    · simp [hb]
  | some e =>
    dsimp only
    rw [entry_cause, entry_put_of_entry (f := { e with item := none, excluded := false }) h rfl]
    split
    · next hb => rw [entry_congr hb, h]; rfl
    · rfl

theorem loseItem_frame (now : Nat) (a : LabelAddr) (l : LabelRadio) :
    l.loseItem now a = { l with
      directory := (l.loseItem now a).directory, queue := (l.loseItem now a).queue, nextSerial := (l.loseItem now a).nextSerial } := by
  unfold LabelRadio.loseItem
  split
  · rfl
  · exact cause_frame ..

/-! ### Lists of causes -/

/-- The labels of a list at one place of the directory. -/
def hits (b : LabelAddr) (as : List LabelAddr) : Nat := as.countP fun a => decide (addrKey b = addrKey a)

theorem hits_cons (b a : LabelAddr) (as : List LabelAddr) : hits b (a :: as) = hits b as + if addrKey b = addrKey a then 1 else 0 := by
  simp [hits, List.countP_cons]

theorem hits_pos {b : LabelAddr} {as : List LabelAddr} (h : ∃ a ∈ as, addrKey b = addrKey a) : 0 < hits b as := by
  simpa [hits, List.countP_pos_iff] using h

theorem hits_eq_zero {b : LabelAddr} {as : List LabelAddr} (h : ∀ a ∈ as, addrKey b ≠ addrKey a) : hits b as = 0 := by
  simpa [hits, List.countP_eq_zero] using h

/-- An operation on the entry at each address of a list, in order: the entry at an address is reached as often as the list names it. -/
theorem entry_foldl {f : LabelRadio → LabelAddr → LabelRadio} {g : LabelEntry → LabelEntry}
    (hf : ∀ l a b, (f l a).entry b = if addrKey b = addrKey a then (l.entry b).map g else l.entry b)
    (as : List LabelAddr) (l : LabelRadio) (b : LabelAddr) : (as.foldl f l).entry b = (l.entry b).map g^[hits b as] := by
  induction as generalizing l with
  | nil => simp [hits]
  | cons a as ih =>
    rw [List.foldl_cons, ih, hf, hits_cons]
    split
    · rw [Option.map_map]; rfl
    · rfl

theorem foldl_frame {f : LabelRadio → LabelAddr → LabelRadio} (hf : ∀ l a, f l a = { l with
      directory := (f l a).directory, queue := (f l a).queue, nextSerial := (f l a).nextSerial })
    (as : List LabelAddr) (l : LabelRadio) : as.foldl f l = { l with
      directory := (as.foldl f l).directory, queue := (as.foldl f l).queue, nextSerial := (as.foldl f l).nextSerial } := by
  induction as generalizing l with
  | nil => rfl
  | cons a as ih =>
    rw [List.foldl_cons]
    have h := ih (f l a)
    rw [hf l a] at h ⊢
    exact h

theorem entry_causes (now : Nat) (r : Reason) (as : List LabelAddr) (l : LabelRadio) (b : LabelAddr) :
    (l.causes now r as).entry b = (l.entry b).map (LabelEntry.caused r)^[hits b as] :=
  entry_foldl (fun l a b => entry_cause now r a l b) as l b

theorem causes_frame (now : Nat) (r : Reason) (as : List LabelAddr) (l : LabelRadio) :
    l.causes now r as = { l with
      directory := (l.causes now r as).directory, queue := (l.causes now r as).queue, nextSerial := (l.causes now r as).nextSerial } :=
  foldl_frame (fun l a => cause_frame now r a l) as l

/-- A label that a removal notice reaches is unbound; its template stays (R86). -/
theorem entry_removalNotice {now code : Nat} {as : List LabelAddr} (ha : a ∈ as) (he : l.entry a = some e) (hi : e.item = some code) :
    ∃ e', (l.removalNotice now code as).entry a = some e' ∧ e'.item = none ∧ e'.excluded = false ∧ e'.template = e.template := by
  have hmem : a ∈ as.filter (l.names code) := by simp [ha, LabelRadio.names, he, hi]
  unfold LabelRadio.removalNotice
  rw [entry_foldl (fun l a b => entry_loseItem now a l b), he]
  obtain ⟨k, hk⟩ := Nat.exists_eq_succ_of_ne_zero (hits_pos ⟨a, hmem, rfl⟩).ne'
  rw [hk]
  refine ⟨_, rfl, ?_⟩
  rw [Function.iterate_succ_apply]
  refine Function.Iterate.rec (fun f : LabelEntry => f.item = none ∧ f.excluded = false ∧ f.template = e.template) ?_ ?_ k
  · obtain ⟨-, h1, h2, h3, -⟩ := e.unbound_spec
    exact ⟨h1, h2, h3⟩
  · rintro f ⟨-, -, ht⟩
    obtain ⟨-, h1, h2, h3, -⟩ := f.unbound_spec
    exact ⟨h1, h2, h3.trans ht⟩

end LabelRadio

end Sys2Proof.Machine
end

section
/-! The item requests, and the clock's reaching of a lag report's time (01). -/

namespace Sys2Proof.Machine

variable {s : State}

/-! ### A request that is taken -/

/-- A request that is taken is answered with what its block makes of the state. -/
theorem next_taken {c : Instr} {tag : Nat} {f : State → State × Reply} {t : State} {r : Reply}
    (hc : exec c s = .next (hostRequest tag f s)) (h : s.canTake = true) (hf : f s = (t, r)) :
    exec c s = .next (t.addReply tag .request r) := by rw [hc, hostRequest_taken tag f h, hf]

/-- An event that only a running part takes. -/
theorem next_running {c : Instr} {f : State → State} (hc : exec c s = .next (whileRunning f s)) (h : s.power = .running) :
    exec c s = .next (f s) := by rw [hc, whileRunning_on f h]

/-- A value is clamped exactly where it lies outside its range. -/
theorem clamp_ne_iff {lo hi n : Nat} : clamp lo hi n ≠ n ↔ n < lo ∨ hi < n := by
  unfold clamp
  split
  · omega
  · split <;> omega

/-! ### Item requests -/

theorem pageCount_price (code : Nat) (old new : Option Nat) (c : PriceCause) : (JournalContent.price code old new c).pageCount = 1 := by
  simp [JournalContent.pageCount, JournalContent.entries, ceilDiv]

theorem pageCount_lag (code n : Nat) : (JournalContent.lag code n).pageCount = 1 := by
  simp [JournalContent.pageCount, JournalContent.entries, ceilDiv]

theorem withItem_bad {code : Nat} {f : ItemRecord → State → State × Reply} (h : codeOk code = false) :
    withItem code f s = (s, .refused .badField .noDetail) := by simp [withItem, h, Reply.refuse]

theorem withItem_missing {code : Nat} {f : ItemRecord → State → State × Reply} (h : codeOk code = true) (hi : s.item code = none) :
    withItem code f s = (s, .refused .notFound (.missing .item)) := by simp [withItem, h, hi, Reply.notFound]

theorem withItem_some {code : Nat} {r : ItemRecord} (f : ItemRecord → State → State × Reply) (h : codeOk code = true)
    (hi : s.item code = some r) : withItem code f s = f r s := by simp [withItem, h, hi]

theorem putNew_accepted {a : ItemPutArgs} {p : PriceRecord} {mem : MemFaults} (hlen : s.itb.items.length < 32768)
    (hfit : s.jnl.fits (.price a.code none (some p.unit) .itemPut) = true) :
    putNew a p mem s = ((acceptAppend mem (.price a.code none (some p.unit) .itemPut) s).putItem
      { ItemRecord.fresh a.code a.desc a.band with current := some p }, .okNumber 2 0) := by
  simp [putNew, maxItems, hlen, journalAppend_accepted mem _ hfit]

theorem putExisting_accepted {a : ItemPutArgs} {p : PriceRecord} {mem : MemFaults} {r : ItemRecord}
    (hfit : s.jnl.fits (.price a.code (oldUnit (some r)) (some p.unit) .itemPut) = true) :
    putExisting a p mem r s = (changeCurrent mem p (fun x => { x with desc := a.desc, band := a.band, damaged := false }) r
      (acceptAppend mem (.price a.code (oldUnit (some r)) (some p.unit) .itemPut) s), .okNumber 2 (wrap16 r.version)) := by
  simp [putExisting, journalAppend_accepted mem _ hfit]

theorem itemPut_new {a : ItemPutArgs} {p : PriceRecord} {mem : MemFaults} (hc : codeOk a.code = true) (hd : a.desc.length ≤ 24)
    (hb : a.band ≤ 7) (hp : checkPrice a.price = .ok p) (hi : s.item a.code = none) : itemPut a mem s = putNew a p mem s := by
  simp [itemPut, descBandOk, hc, hd, hb, hp, hi]

theorem itemPut_known {a : ItemPutArgs} {p : PriceRecord} {mem : MemFaults} {r : ItemRecord} (hc : codeOk a.code = true)
    (hd : a.desc.length ≤ 24) (hb : a.band ≤ 7) (hp : checkPrice a.price = .ok p) (hi : s.item a.code = some r) :
    itemPut a mem s = putExisting a p mem r s := by
  simp [itemPut, descBandOk, hc, hd, hb, hp, hi]

/-- A change of current after an accepted append: what it leaves of the part, the record, and the append's record. -/
theorem changeCurrent_accepted {mem : MemFaults} {c : JournalContent} {p : PriceRecord} {also : ItemRecord → ItemRecord}
    {r : ItemRecord} (ha : ∀ x, (also x).code = x.code) :
    let u := changeCurrent mem p also r (acceptAppend mem c s)
    u = { s with itb := { s.itb with items := u.itb.items }, jnl := u.jnl, lrc := u.lrc, msp := u.msp } ∧
      u.msp.replies = s.msp.replies ∧ u.msp.clock = s.msp.clock ∧
      u.item r.code = some (also (r.changed mem s.now p)) ∧ (∀ k, k ≠ r.code → u.item k = s.item k) ∧
      u.jnl.records.getLast? = some ⟨s.jnl.append.seq, s.jnl.append.pos, c.pageCount, s.now, s.msp.clock.isSet, false, [], c⟩ := by
  obtain ⟨j, m, hacc, hrep, hclk, -, hlast, -⟩ := acceptAppend_frame mem c s
  obtain ⟨its, l, m', hch, hrep', hclk', -, hitem, hother⟩ := changeCurrent_spec mem p also r (acceptAppend mem c s) ha
  have hnow : (acceptAppend mem c s).now = s.now := by rw [hacc]; exact congrArg BranchClock.reading hclk
  have hitems : ∀ k, (acceptAppend mem c s).item k = s.item k := by intro k; rw [hacc]; rfl
  rw [hnow] at hitem
  intro u
  refine ⟨?_, ?_, ?_, hitem, fun k hk => (hother k hk).trans (hitems k), ?_⟩
  · simp only [u, hch]; rw [hacc]
  · simp only [u, hch]; rw [hrep', hacc, hrep]
  · simp only [u, hch]; rw [hclk', hacc, hclk]
  · simp only [u, hch]; rw [hacc, hlast]

/-- An outgoing record that can be read is the record of the current. -/
theorem damagedAt_clean {mem : MemFaults} {now : Nat} {p : PriceRecord} {r : ItemRecord} (hd : r.damaged = false) (hm : r.code ∉ mem.items) :
    r.damagedAt mem now p = false := by simp [ItemRecord.damagedAt, hd, hm]

theorem changed_previous {mem : MemFaults} {now : Nat} {p : PriceRecord} {r : ItemRecord} (hd : r.damaged = false) (hm : r.code ∉ mem.items) :
    (r.changed mem now p).previous = keepPrevious (r.withCurrent now p).count r.previous (r.current.map fun c => ⟨c, r.version⟩)
      ⟨p, wrap16 r.version⟩ := by
  simp only [ItemRecord.changed, damagedAt_clean hd hm, ItemRecord.outgoing]
  rfl

theorem keepPrevious_zero (e o : Option Previous) (i : Previous) : keepPrevious 0 e o i = none := by simp [keepPrevious]

theorem itemPrice_accepted {a : ItemPriceArgs} {p : PriceRecord} {mem : MemFaults} {r : ItemRecord} (hp : checkPrice a.price = .ok p)
    (hd : r.damaged = false) (hfit : s.jnl.fits (.price a.code (oldUnit (some r)) (some p.unit) .itemPrice) = true) :
    itemPrice a mem r s = (changeCurrent mem p id r (acceptAppend mem (.price a.code (oldUnit (some r)) (some p.unit) .itemPrice) s),
      .okNumber 2 (wrap16 r.version)) := by
  simp [itemPrice, hp, hd, journalAppend_accepted mem _ hfit]

theorem itemDelete_accepted {mem : MemFaults} {r : ItemRecord}
    (hfit : s.jnl.fits (.price r.code (oldUnit (some r)) none .itemDelete) = true) :
    itemDelete mem r s = (removeItem r (acceptAppend mem (.price r.code (oldUnit (some r)) none .itemDelete) s), .okay) := by
  simp [itemDelete, journalAppend_accepted mem _ hfit]

theorem lagAccept_accepted {mem : MemFaults} {r : ItemRecord} (hc : 0 < r.count) (hfit : s.jnl.fits (.lag r.code r.count) = true) :
    lagAccept mem r s =
      let u := acceptAppend mem (.lag r.code r.count) s
      (({ u with lrc := (u.lrc.exclude r.code r.version).1 }).putItem r.lagAccepted, .okNumber 1 (u.lrc.exclude r.code r.version).2) := by
  simp [lagAccept, hc.ne', journalAppend_accepted mem _ hfit]

theorem lagAccepted_pendingCount (r : ItemRecord) : r.lagAccepted.pendingCount = 0 := by
  have h : ∀ l ∈ r.lagAccepted.labels, l.counted r.version = false := by
    intro l hl
    obtain ⟨x, -, rfl⟩ := List.mem_map.mp hl
    by_cases hx : x.confirmed = some r.version
    · simp [BoundLabel.counted, hx]
    · simp [BoundLabel.counted, hx]
  unfold ItemRecord.pendingCount
  rw [List.filter_eq_nil_iff.mpr fun l hl => by simpa [ItemRecord.lagAccepted] using h l hl]
  rfl

/-! ### Lag (R11) -/

/-- One item's lag judged: the item reported and marked where it is due, every other as it was. -/
theorem judgeLag_due {code : Nat} {r : ItemRecord} (hi : s.item code = some r) (hd : r.lagDue s.now s.itb.lagLimit = true) :
    judgeLag code s = (s.putItem { r with lagReported := true }).report r.lagReport := by simp [judgeLag, hi, hd]

theorem judgeLag_notDue {code : Nat} (h : ∀ r, s.item code = some r → r.lagDue s.now s.itb.lagLimit = false) : judgeLag code s = s := by
  unfold judgeLag
  split
  · rfl
  · next r hr => rw [if_neg (by simp [h r hr])]

/-- The record after its lag is judged (R11). -/
def ItemRecord.lagJudged (now limit : Nat) (r : ItemRecord) : ItemRecord := { r with lagReported := r.lagReported || r.lagDue now limit }

theorem ItemRecord.lagJudged_of_due {now limit : Nat} {r : ItemRecord} (h : r.lagDue now limit = true) :
    r.lagJudged now limit = { r with lagReported := true } := by simp [ItemRecord.lagJudged, h]

theorem ItemRecord.lagJudged_of_notDue {now limit : Nat} {r : ItemRecord} (h : r.lagDue now limit = false) :
    r.lagJudged now limit = r := by simp [ItemRecord.lagJudged, h]

theorem ItemRecord.lagDue_lagJudged (now limit : Nat) (r : ItemRecord) : (r.lagJudged now limit).lagDue now limit = false := by
  by_cases h : r.lagDue now limit = true
  · simp [ItemRecord.lagJudged_of_due h, ItemRecord.lagDue]
  · rw [ItemRecord.lagJudged_of_notDue (by simpa using h)]
    simpa using h

theorem ItemRecord.lagJudged_lagJudged (now limit : Nat) (r : ItemRecord) :
    (r.lagJudged now limit).lagJudged now limit = r.lagJudged now limit :=
  ItemRecord.lagJudged_of_notDue (r.lagDue_lagJudged now limit)

theorem judgeLag_item (code c : Nat) (s : State) : (judgeLag code s).item c =
    if c = code then (s.item c).map (·.lagJudged s.now s.itb.lagLimit) else s.item c := by
  by_cases hdue : ∃ r, s.item code = some r ∧ r.lagDue s.now s.itb.lagLimit = true
  · obtain ⟨r, hr, hd⟩ := hdue
    have hcode : r.code = code := item_code hr
    rw [judgeLag_due hr hd]
    split
    · next hc =>
      subst hc hcode
      rw [hr, Option.map_some, ItemRecord.lagJudged_of_due hd]
      exact putItem_item s { r with lagReported := true }
    · next hc => exact putItem_item_ne s { r with lagReported := true } (by simpa [hcode] using hc)
  · have hnot : ∀ r, s.item code = some r → r.lagDue s.now s.itb.lagLimit = false :=
      fun r hr => Bool.eq_false_iff.mpr fun hd => hdue ⟨r, hr, hd⟩
    rw [judgeLag_notDue hnot]
    split
    · next hc =>
      subst hc
      cases hi : s.item c with
      | none => rfl
      | some r => rw [Option.map_some, ItemRecord.lagJudged_of_notDue (hnot r hi)]
    · rfl

/-- Judging lags writes item records and reports alone. -/
theorem judgeLag_frame (code : Nat) (s : State) :
    judgeLag code s = { s with
      itb := { s.itb with items := (judgeLag code s).itb.items }, msp := { s.msp with reports := (judgeLag code s).msp.reports } } := by
  unfold judgeLag
  split
  · rfl
  · split <;> rfl

theorem judgeLags_frame (codes : List Nat) (s : State) :
    let t := codes.foldl (fun s c => judgeLag c s) s
    t = { s with itb := { s.itb with items := t.itb.items }, msp := { s.msp with reports := t.msp.reports } } := by
  induction codes generalizing s with
  | nil => rfl
  | cons c codes ih =>
    have h := ih (judgeLag c s)
    rw [judgeLag_frame c s] at h
    rw [List.foldl_cons, judgeLag_frame c s]
    exact h

theorem judgeLags_item (codes : List Nat) (s : State) (c : Nat) :
    (codes.foldl (fun s c => judgeLag c s) s).item c =
      if c ∈ codes then (s.item c).map (·.lagJudged s.now s.itb.lagLimit) else s.item c := by
  induction codes generalizing s with
  | nil => simp
  | cons k codes ih =>
    rw [List.foldl_cons, ih]
    have hnow : (judgeLag k s).now = s.now := by rw [judgeLag_frame]; rfl
    have hlim : (judgeLag k s).itb.lagLimit = s.itb.lagLimit := by rw [judgeLag_frame]
    rw [hnow, hlim, judgeLag_item]
    by_cases hk : c = k
    · subst hk
      simp only [if_true, List.mem_cons, true_or, Option.map_map]
      split
      · congr 1
        funext r
        exact r.lagJudged_lagJudged _ _
      · rfl
    · simp [hk]

theorem judgeAllLags_item (s : State) (c : Nat) :
    (judgeAllLags s).item c = (s.item c).map (·.lagJudged s.now s.itb.lagLimit) := by
  unfold judgeAllLags
  rw [judgeLags_item]
  split
  · rfl
  · next h =>
    cases hi : s.item c with
    | none => rfl
    | some r => exact absurd (List.mem_map.mpr ⟨r, mem_of_item hi, item_code hi⟩) h

theorem judgeAllLags_frame (s : State) :
    judgeAllLags s = { s with
      itb := { s.itb with items := (judgeAllLags s).itb.items }, msp := { s.msp with reports := (judgeAllLags s).msp.reports } } :=
  judgeLags_frame _ s

/-- After every lag is judged no item is due. -/
theorem judgeAllLags_notDue {c : Nat} {r : ItemRecord} (h : (judgeAllLags s).item c = some r) :
    r.lagDue s.now s.itb.lagLimit = false := by
  rw [judgeAllLags_item] at h
  obtain ⟨x, -, rfl⟩ := Option.map_eq_some_iff.mp h
  exact x.lagDue_lagJudged _ _

/-- In a table in order a record is the one found at its code. -/
theorem item_of_mem (h : s.itb.items.Pairwise fun a b => a.code < b.code) {r : ItemRecord} (hr : r ∈ s.itb.items) :
    s.item r.code = some r := by
  obtain ⟨pre, post, heq⟩ := List.append_of_mem hr
  rw [heq] at h
  unfold State.item findKey
  rw [heq, List.find?_append]
  have hpre : pre.find? (fun x => x.code == r.code) = none := by
    rw [List.find?_eq_none]
    intro x hx
    have := (List.pairwise_append.mp h).2.2 x hx r List.mem_cons_self
    simpa using this.ne
  simp [hpre]

/-- The reports of judging a list of records, each standing in the table under its own code, are those of the records due. -/
theorem judgeLags_reports (rs : List ItemRecord) (hnd : (rs.map (·.code)).Nodup) (s : State) (hrs : ∀ r ∈ rs, s.item r.code = some r) :
    ((rs.map (·.code)).foldl (fun s c => judgeLag c s) s).msp.reports =
      (rs.filter fun r => r.lagDue s.now s.itb.lagLimit).foldl (fun q r => queueReport s.now r.lagReport q) s.msp.reports := by
  induction rs generalizing s with
  | nil => rfl
  | cons r rs ih =>
    rw [List.map_cons, List.nodup_cons] at hnd
    have hnow : (judgeLag r.code s).now = s.now := by rw [judgeLag_frame]; rfl
    have hlim : (judgeLag r.code s).itb.lagLimit = s.itb.lagLimit := by rw [judgeLag_frame]
    have hrest : ∀ x ∈ rs, (judgeLag r.code s).item x.code = some x := by
      intro x hx
      have hne : x.code ≠ r.code := fun he => hnd.1 (he ▸ List.mem_map_of_mem hx)
      rw [judgeLag_item, if_neg hne, hrs x (List.mem_cons_of_mem _ hx)]
    rw [List.map_cons, List.foldl_cons, ih hnd.2 _ hrest, hnow, hlim]
    have hr := hrs r List.mem_cons_self
    by_cases hd : r.lagDue s.now s.itb.lagLimit = true
    · rw [List.filter_cons_of_pos hd, List.foldl_cons, judgeLag_due hr hd]
      rfl
    · rw [List.filter_cons_of_neg hd, judgeLag_notDue fun x hx => by rw [hr] at hx; cases hx; simpa using hd]

theorem judgeAllLags_reports (h : s.itemsOrdered) : (judgeAllLags s).msp.reports =
    (s.itb.items.filter fun r => r.lagDue s.now s.itb.lagLimit).foldl (fun q r => queueReport s.now r.lagReport q) s.msp.reports := by
  have hsorted : s.itb.items.Pairwise fun a b => a.code < b.code := h.1
  refine judgeLags_reports s.itb.items ?_ s fun r hr => item_of_mem hsorted hr
  exact List.pairwise_map.mpr (hsorted.imp fun hlt => hlt.ne)

end Sys2Proof.Machine

namespace Sys2Proof.Proofs
open Sys2Proof.Machine

/-- Settles O11: the append is accepted and the new record put at its code. -/
theorem itemPutCreatesARecord : Obligations.ItemPutCreatesARecord := by
  intro tag a p mem s htake hcode hdesc hband hprice hnone hlen hfit
  obtain ⟨j, m, hacc, hrep, hclk, -, hlast, -⟩ := acceptAppend_frame mem (.price a.code none (some p.unit) .itemPut) s
  have hput : itemPut a mem s = _ := (itemPut_new hcode hdesc hband hprice hnone).trans (putNew_accepted hlen hfit)
  rw [hacc] at hput
  rw [pageCount_price] at hlast
  refine ⟨_, next_taken (f := withBody (some a) fun a => itemPut a mem) rfl htake hput, rfl, ?_, ?_, hlast, ?_, hclk⟩
  · exact putItem_item _ { ItemRecord.fresh a.code a.desc a.band with current := some p }
  · exact fun c hc => putItem_item_ne _ { ItemRecord.fresh a.code a.desc a.band with current := some p } hc
  · rw [addReply_replies]
    exact congrArg (· ++ _) hrep

/-- Settles O12: the accepted append, then the change of current. -/
theorem itemPutRewritesARecord : Obligations.ItemPutRewritesARecord := by
  intro tag a p mem r s htake hcode hdesc hband hprice hsome hfit
  have hput : itemPut a mem s = _ := (itemPut_known hcode hdesc hband hprice hsome).trans (putExisting_accepted hfit)
  obtain ⟨hframe, hrep, hclk, hitem, hother, hlast⟩ := changeCurrent_accepted (s := s) (mem := mem) (p := p) (r := r)
    (c := .price a.code (oldUnit (some r)) (some p.unit) .itemPut) (also := fun x => { x with desc := a.desc, band := a.band, damaged := false })
    fun _ => rfl
  rw [item_code hsome] at hitem hother
  rw [pageCount_price] at hlast
  refine ⟨_, _, next_taken (f := withBody (some a) fun a => itemPut a mem) rfl htake hput, ?_, hitem, hother, rfl, rfl, rfl, rfl, rfl,
    rfl, rfl, rfl, rfl, hlast, ?_, hclk⟩
  · exact congrArg (State.addReply tag .request (.okNumber 2 (wrap16 r.version))) hframe
  · rw [addReply_replies, hrep]
    rfl

/-- Settles O13: the accepted append, then the change of current with the keeping rule. -/
theorem itemPriceKeepsTheLowestRecord : Obligations.ItemPriceKeepsTheLowestRecord := by
  intro tag a p mem r s htake hcode hprice hsome hdam hmem hfit
  have hrc : r.code = a.code := item_code hsome
  have hrun : withItem a.code (itemPrice a mem) s = _ := (withItem_some _ hcode hsome).trans (itemPrice_accepted hprice hdam hfit)
  obtain ⟨hframe, hrep, hclk, hitem, hother, -⟩ := changeCurrent_accepted (s := s) (mem := mem) (p := p) (r := r)
    (c := .price a.code (oldUnit (some r)) (some p.unit) .itemPrice) (also := id) fun _ => rfl
  rw [hrc] at hitem hother
  have hprev := changed_previous (now := s.now) (p := p) hdam (mem := mem) (by rwa [hrc])
  refine ⟨_, _, next_taken (f := withBody (some a) fun a => withItem a.code (itemPrice a mem)) rfl htake hrun, ?_, hitem, hother,
    ?_, rfl, ?_, ?_, ?_, ?_, ?_, ?_⟩
  · exact congrArg (State.addReply tag .request (.okNumber 2 (wrap16 r.version))) hframe
  · simp only [id, ItemRecord.changed, damagedAt_clean hdam (hrc ▸ hmem), ← hdam]
    rfl
  · intro h0
    exact hprev.trans (by rw [show (r.withCurrent s.now p).count = 0 from h0, keepPrevious_zero])
  · intro hpos o ho hn
    exact hprev.trans (by simp [keepPrevious, show (r.withCurrent s.now p).count ≠ 0 from hpos.ne', ho, hn])
  · intro hpos ho hn
    exact hprev.trans (by rw [ho, hn]; simp [keepPrevious, show (r.withCurrent s.now p).count ≠ 0 from hpos.ne']; rfl)
  · intro hpos e ho hn
    exact hprev.trans (by simp [keepPrevious, show (r.withCurrent s.now p).count ≠ 0 from hpos.ne', ho, hn])
  · intro hpos o e ho hn
    refine hprev.trans ?_
    rw [ho, hn]
    simp only [keepPrevious, show (r.withCurrent s.now p).count ≠ 0 from hpos.ne', if_false, Option.map_some]
    split <;> rfl
  · rw [addReply_replies, hrep]
    rfl

/-- Settles O14: the accepted append, the record dropped, and the removal notice to its labels. -/
theorem itemDeleteUnbindsAndRemoves : Obligations.ItemDeleteUnbindsAndRemoves := by
  intro tag code mem r s htake hcode hsome hfit
  have hrc : r.code = code := item_code hsome
  subst hrc
  have hrun : withItem r.code (itemDelete mem) s = _ := (withItem_some _ hcode hsome).trans (itemDelete_accepted hfit)
  obtain ⟨j, m, hacc, hrep, hclk, -, hlast, -⟩ := acceptAppend_frame mem (.price r.code (oldUnit (some r)) none .itemDelete) s
  rw [hacc] at hrun
  rw [pageCount_price] at hlast
  refine ⟨_, next_taken (f := withBody (some r.code) fun c => withItem c (itemDelete mem)) rfl htake hrun, rfl, ?_, ?_, ?_, hlast, ?_⟩
  · exact dropItem_item _ _
  · exact fun c hc => dropItem_item_ne _ hc
  · intro a ha e he hi
    exact LabelRadio.entry_removalNotice ha he hi
  · rw [addReply_replies]
    exact congrArg (· ++ _) hrep

/-- Settles O15, case by case of the record and of the band. -/
theorem blockUnblockAndTaxSetWriteOneField : Obligations.BlockUnblockAndTaxSetWriteOneField := by
  refine ⟨fun tag code s htake => ⟨fun hbad => ?_, fun hcode hnone => ?_, fun hcode r hsome => ?_⟩, fun tag a s htake => ?_⟩
  · exact ⟨next_taken (f := withBody (some code) fun c => withItem c (setBlocked true)) rfl htake (withItem_bad hbad),
      next_taken (f := withBody (some code) fun c => withItem c (setBlocked false)) rfl htake (withItem_bad hbad)⟩
  · exact ⟨next_taken (f := withBody (some code) fun c => withItem c (setBlocked true)) rfl htake (withItem_missing hcode hnone),
      next_taken (f := withBody (some code) fun c => withItem c (setBlocked false)) rfl htake (withItem_missing hcode hnone)⟩
  · have hrc : r.code = code := item_code hsome
    subst hrc
    refine ⟨_, _, next_taken (f := withBody (some r.code) fun c => withItem c (setBlocked true)) rfl htake (withItem_some _ hcode hsome),
      next_taken (f := withBody (some r.code) fun c => withItem c (setBlocked false)) rfl htake (withItem_some _ hcode hsome),
      putItem_item s { r with blocked := true }, putItem_item s { r with blocked := false },
      fun c hc => ⟨putItem_item_ne s { r with blocked := true } hc, putItem_item_ne s { r with blocked := false } hc⟩, rfl, rfl, rfl, rfl⟩
  · have hmin : min a.rate 9999 = if 9999 < a.rate then 9999 else a.rate := by split <;> omega
    split
    · next hb =>
      refine next_taken (f := withBody (some a) taxSet) rfl htake ?_
      simp [withBody, taxSet, hb, hmin, tset, Reply.okClamped]
    · next hb =>
      exact next_taken (f := withBody (some a) taxSet) rfl htake (by simp [withBody, taxSet, hb, Reply.refuse])

/-- Settles O16: nothing to accept, or the accepted append, the exclusion order, and the record with nothing counted. -/
theorem lagAcceptExcludesTheLaggingLabels : Obligations.LagAcceptExcludesTheLaggingLabels := by
  intro tag code mem r s htake hcode hsome
  have hrc : r.code = code := item_code hsome
  subst hrc
  have hstart : withItem r.code (lagAccept mem) s = lagAccept mem r s := withItem_some _ hcode hsome
  refine ⟨fun h0 => ?_, fun hpos hfit => ?_⟩
  · exact next_taken (f := withBody (some r.code) fun c => withItem c (lagAccept mem)) rfl htake
      (hstart.trans (by simp [lagAccept, h0, Reply.okNumber]))
  · obtain ⟨j, m, hacc, hrep, hclk, -, hlast, -⟩ := acceptAppend_frame mem (.lag r.code r.count) s
    have hrun := hstart.trans (lagAccept_accepted (mem := mem) hpos hfit)
    rw [hacc] at hrun
    rw [pageCount_lag] at hlast
    refine ⟨_, _, next_taken (f := withBody (some r.code) fun c => withItem c (lagAccept mem)) rfl htake hrun, rfl,
      putItem_item _ r.lagAccepted, ?_, rfl, lagAccepted_pendingCount r, ?_, hlast, ?_⟩
    · exact fun c hc => putItem_item_ne _ r.lagAccepted hc
    · simp [LabelRadio.exclude, LabelEntry.lags]
    · rw [addReply_replies]
      exact congrArg (· ++ _) hrep

/-- Settles O17: every lag judged under the new limit, and one lag judged as it falls due. -/
theorem lagIsReportedWhenItFallsDue : Obligations.LagIsReportedWhenItFallsDue := by
  refine ⟨fun tag limit s htake => ?_, fun code r s hrun hsome hnot hdue => ?_⟩
  · let u : State := { s with itb := { s.itb with lagLimit := clamp 60 7200 limit } }
    refine ⟨_, next_taken (f := withBody (some limit) priceParams) rfl htake (t := judgeAllLags u) rfl, ?_, ?_, ?_, ?_, ?_⟩
    · rw [judgeAllLags_frame u]; rfl
    · intro c r hr
      exact (judgeAllLags_item u c).trans (by rw [show u.item c = some r from hr]; rfl)
    · intro c r hr
      have hnow : (judgeAllLags u).now = s.now := by rw [judgeAllLags_frame u]; rfl
      have hlim : (judgeAllLags u).itb.lagLimit = u.itb.lagLimit := by rw [judgeAllLags_frame u]
      have := judgeAllLags_notDue (s := u) hr
      rw [← hlim] at this
      exact (congrArg (r.lagDue · _) hnow).trans this
    · intro hord
      exact judgeAllLags_reports (s := u) hord
    · rw [judgeAllLags_frame u, addReply_replies]
      simp [Reply.okClamped, clamp_ne_iff, u]
  · refine (next_running (f := judgeLag code) rfl hrun).trans ?_
    obtain ⟨l, hl, hle⟩ := hdue
    have hrc : r.code = code := item_code hsome
    subst hrc
    rw [judgeLag_due hsome (by simp [ItemRecord.lagDue, hnot, hl, hle])]
    rfl

end Sys2Proof.Proofs
end

section
/-! The templates, definitions, overlays and walks (06). -/

namespace Sys2Proof.Machine

/-! ### Keys of a table in order -/

theorem putKey_keys {α : Type} {key : α → Nat} {x y : α} {l : List α} (h : l.Pairwise fun a b => key a < key b)
    (hy : findKey key (key x) l = some y) : (putKey key x l).map key = l.map key := by
  induction l with
  | nil => simp [findKey] at hy
  | cons z zs ih =>
    rw [List.pairwise_cons] at h
    unfold putKey
    by_cases hz : key z = key x
    · rw [if_neg (by omega), if_pos hz.symm]
      simp [hz]
    · have hrest : findKey key (key x) zs = some y := by simpa [findKey, hz] using hy
      have hlt : key z < key x := findKey_key key hrest ▸ h.1 y (List.mem_of_find?_eq_some hrest)
      rw [if_neg (by omega), if_neg (by omega), List.map_cons, List.map_cons, ih h.2 hrest]

theorem nextAfter_isNone {α : Type} {key : α → Nat} {p : Nat} {l : List α} :
    (nextAfter key (some p) l).isNone = true ↔ ∀ k ∈ l.map key, k ≤ p := by
  simp [nextAfter]

/-- What the rebind notice makes of the entry that it reaches (R87). -/
def LabelEntry.rebased (e : LabelEntry) : LabelEntry := LabelEntry.caused .bind { e with template := 0 }

theorem LabelEntry.rebased_spec (e : LabelEntry) : e.rebased.addr = e.addr ∧ e.rebased.item = e.item ∧ e.rebased.template = 0 :=
  have h := LabelEntry.caused_sameBinding .bind { e with template := 0 }
  ⟨h.addr, h.item, h.template⟩

namespace LabelRadio

variable {l : LabelRadio} {e : LabelEntry} {a b : LabelAddr}

/-- A cause changes no address, so the directory keeps its keys. -/
theorem cause_keys (now : Nat) (r : Reason) (a : LabelAddr) (h : l.Ordered) :
    (l.cause now r a).directory.map LabelEntry.key = l.directory.map LabelEntry.key := by
  unfold LabelRadio.cause
  split
  · rfl
  · next e he =>
    have key : ∀ f : LabelEntry, f.addr = e.addr → (l.put f).directory.map LabelEntry.key = l.directory.map LabelEntry.key := by
      intro f hf
      have hk : f.key = addrKey a := by rw [LabelEntry.key, hf]; exact addrKey_of_entry he
      exact putKey_keys (y := e) h.1 (by rw [hk]; exact he)
    split <;> exact key _ rfl

/-- In a directory in order the entry found at an address is the only one with its key. -/
theorem eq_of_key (h : l.Ordered) (he : l.entry b = some e) {x : LabelEntry} (hx : x ∈ l.directory) (hk : addrKey b = addrKey x.addr) :
    x = e := by
  have hnd : (l.directory.map LabelEntry.key).Nodup := List.pairwise_map.mpr (h.1.imp fun hlt => hlt.ne)
  exact List.inj_on_of_nodup_map hnd hx (mem_of_entry he) (hk.symm.trans (addrKey_of_entry he).symm)

/-- A list of the directory's entries that pass a test names the entry at an address exactly where that entry passes. -/
theorem hits_filter (h : l.Ordered) (he : l.entry b = some e) (p : LabelEntry → Bool) :
    (p e = true → 0 < hits b ((l.directory.filter p).map (·.addr))) ∧
    (p e = false → hits b ((l.directory.filter p).map (·.addr)) = 0) := by
  refine ⟨fun hp => hits_pos ⟨e.addr, ?_, (addrKey_of_entry he).symm⟩, fun hp => hits_eq_zero ?_⟩
  · exact List.mem_map_of_mem (List.mem_filter.mpr ⟨mem_of_entry he, hp⟩)
  · rintro _ ha hk
    obtain ⟨x, hx, rfl⟩ := List.mem_map.mp ha
    obtain ⟨hxd, hpx⟩ := List.mem_filter.mp hx
    rw [eq_of_key h he hxd hk, hp] at hpx
    exact Bool.false_ne_true hpx

/-! ### The notices of the Template Store (R87) -/

theorem entry_rebindNotice (now : Nat) (a : LabelAddr) (l : LabelRadio) (b : LabelAddr) :
    (l.rebindNotice now a).entry b = if addrKey b = addrKey a then (l.entry b).map LabelEntry.rebased else l.entry b := by
  unfold LabelRadio.rebindNotice
  cases h : l.entry a with
  | none =>
    by_cases hb : addrKey b = addrKey a
    · simp [entry_congr hb, h]
    · simp [hb]
  | some e =>
    dsimp only
    rw [entry_cause, entry_put_of_entry (f := { e with template := 0 }) h rfl]
    split
    · next hb => rw [entry_congr hb, h]; rfl
    · rfl

theorem rebindNotice_frame (now : Nat) (a : LabelAddr) (l : LabelRadio) :
    l.rebindNotice now a = { l with
      directory := (l.rebindNotice now a).directory, queue := (l.rebindNotice now a).queue
      nextSerial := (l.rebindNotice now a).nextSerial } := by
  unfold LabelRadio.rebindNotice
  split
  · rfl
  · exact cause_frame ..

/-- The rebind notice to every label of a slot: those labels on template 0, every binding kept. -/
theorem entry_rebind_onTemplate {n now : Nat} (h : l.Ordered) (he : l.entry b = some e) :
    ∃ f, ((l.onTemplate n).foldl (fun l a => l.rebindNotice now a) l).entry b = some f ∧ f.item = e.item ∧ f.addr = e.addr ∧
      f.template = if e.template = n then 0 else e.template := by
  rw [entry_foldl (fun l a b => entry_rebindNotice now a l b), he]
  obtain ⟨hpos, hzero⟩ := hits_filter h he fun x => x.template == n
  refine ⟨_, rfl, ?_⟩
  by_cases ht : e.template = n
  · obtain ⟨k, hk⟩ := Nat.exists_eq_succ_of_ne_zero (hpos (by simpa using ht)).ne'
    rw [LabelRadio.onTemplate, hk, Function.iterate_succ_apply, if_pos ht]
    refine Function.Iterate.rec (fun f : LabelEntry => f.item = e.item ∧ f.addr = e.addr ∧ f.template = 0) ?_ ?_ k
    · obtain ⟨h1, h2, h3⟩ := e.rebased_spec
      exact ⟨h2, h1, h3⟩
    · rintro f ⟨hi, ha, -⟩
      obtain ⟨h1, h2, h3⟩ := f.rebased_spec
      exact ⟨h2.trans hi, h1.trans ha, h3⟩
  · rw [LabelRadio.onTemplate, hzero (by simpa using ht), if_neg ht]
    exact ⟨rfl, rfl, rfl⟩

/-- The overlay notice leaves what an entry is bound to. -/
theorem entry_overlayNotice (now first last : Nat) (l : LabelRadio) (b : LabelAddr) :
    (l.overlayNotice now first last).entry b = (l.entry b).map (LabelEntry.caused .template)^[hits b
      ((l.directory.filter fun e => decide (first ≤ e.addr.rail) && decide (e.addr.rail ≤ last)).map (·.addr))] := entry_causes ..

theorem overlayNotice_frame (now first last : Nat) (l : LabelRadio) :
    l.overlayNotice now first last = { l with
      directory := (l.overlayNotice now first last).directory, queue := (l.overlayNotice now first last).queue
      nextSerial := (l.overlayNotice now first last).nextSerial } := causes_frame ..

theorem sameBinding_overlayNotice (now first last : Nat) (he : l.entry b = some e) :
    ∃ f, (l.overlayNotice now first last).entry b = some f ∧ e.SameBinding f := by
  rw [entry_overlayNotice, he]
  exact ⟨_, rfl, e.iterate_caused_sameBinding _ _⟩

/-- The overlay notice leaves a label on another rail. -/
theorem entry_overlayNotice_away {now first last : Nat} (h : l.Ordered) (he : l.entry b = some e)
    (hr : ¬(first ≤ e.addr.rail ∧ e.addr.rail ≤ last)) : (l.overlayNotice now first last).entry b = some e := by
  rw [entry_overlayNotice, he, (hits_filter h he _).2 (by simpa using hr)]
  rfl

/-- The overlay notice queues an idle label on the range. -/
theorem entry_overlayNotice_idle {now first last : Nat} (h : l.Ordered) (he : l.entry b = some e) (hs : e.state = .idle)
    (hf : first ≤ e.addr.rail) (hl : e.addr.rail ≤ last) :
    ∃ f, (l.overlayNotice now first last).entry b = some f ∧ f.state = .queued ∧ f.owed = some .template ∧ f.addr = e.addr := by
  rw [entry_overlayNotice, he]
  have hpos := (hits_filter h he fun e => decide (first ≤ e.addr.rail) && decide (e.addr.rail ≤ last)).1 (by simp [hf, hl])
  obtain ⟨h1, h2⟩ := LabelEntry.iterate_caused_of_idle (r := .template) hs hpos
  exact ⟨_, rfl, h1, h2, (e.iterate_caused_sameBinding _ _).addr⟩

/-- The overlay notice leaves a label that is queued for it already as it is, in state and reason. -/
theorem entry_overlayNotice_queued {now first last : Nat} (he : l.entry b = some e) (hs : e.state = .queued) (ho : e.owed = some .template) :
    ∃ f, (l.overlayNotice now first last).entry b = some f ∧ f.state = .queued ∧ f.owed = some .template := by
  rw [entry_overlayNotice, he]
  exact ⟨_, rfl, LabelEntry.iterate_caused_of_queued _ hs ho⟩

end LabelRadio

/-! ### Slots and definitions -/

variable {s : State}

theorem slot_setSlot_same {n : Nat} (x : TemplateSlot) (t : TemplateStore) (h : n < 64) : (t.setSlot n x).slot n = x := by
  rw [slot_setSlot, if_pos ⟨rfl, h⟩]

theorem slot_setSlot_ne {n m : Nat} (x : TemplateSlot) (t : TemplateStore) (h : n ≠ m) : (t.setSlot n x).slot m = t.slot m := by
  rw [slot_setSlot, if_neg fun hc => h hc.1]

/-- Cancelling the open definition writes the slots and the definition alone. -/
theorem cancel_frame (t : TemplateStore) : t.cancel = { t with slots := t.cancel.slots, definition := none } := by
  unfold TemplateStore.cancel
  split
  · next h => rw [← h]
  · rfl

/-- Cancelling takes the slot of the open definition out of DEFINING and leaves every other as it is. -/
theorem slot_cancel {t : TemplateStore} {d : Definition} (h : t.definition = some d) (m : Nat) :
    t.cancel.slot m = if d.slot = m ∧ d.slot < 64 then (t.slot m).leaveDefining else t.slot m := by
  unfold TemplateStore.cancel
  rw [h]
  refine (slot_setSlot d.slot m _ t).trans ?_
  split
  · next hc => rw [hc.1]
  · rfl

/-- Cancelling keeps what every slot has published. -/
theorem slot_cancel_kept (t : TemplateStore) (m : Nat) : (t.cancel.slot m).content = (t.slot m).content ∧
    (t.cancel.slot m).revision = (t.slot m).revision ∧ (t.cancel.slot m).permanence = (t.slot m).permanence := by
  cases h : t.definition with
  | none =>
    have hc : t.cancel = t := by unfold TemplateStore.cancel; rw [h]
    rw [hc]
    exact ⟨rfl, rfl, rfl⟩
  | some d =>
    rw [slot_cancel h]
    split <;> exact ⟨rfl, rfl, rfl⟩

theorem cancelNote_eq (d : Option Definition) :
    cancelNote d = match d with | some d => [.cancelledOther d.slot] | none => [] := by cases d <;> rfl

theorem endCheck_none {d : Definition} {t : TemplateStore} (h : d.elements ≠ []) (hl : hasLoop (t.contentsWith d) = false)
    (hd : hasDeepChain (t.contentsWith d) = false) : endCheck d t = none := by simp [endCheck, h, hl, hd]

theorem endCheck_some {d : Definition} {t : TemplateStore} {r : RefuseReason}
    (h : (d.elements = [] ∧ r = .badRecord) ∨
      (d.elements ≠ [] ∧ hasLoop (t.contentsWith d) = true ∧ r = .callLoop) ∨
      (d.elements ≠ [] ∧ hasLoop (t.contentsWith d) = false ∧ hasDeepChain (t.contentsWith d) = true ∧ r = .callDepth)) :
    endCheck d t = some r := by
  rcases h with ⟨h, rfl⟩ | ⟨h, hl, rfl⟩ | ⟨h, hl, hd, rfl⟩
  · simp [endCheck, h]
  · simp [endCheck, h, hl]
  · simp [endCheck, h, hl, hd]

theorem templateEnd_passed {d : Definition} (h : s.tps.definition = some d) (hc : endCheck d s.tps = none) :
    templateEnd s = ({ s with tps := s.tps.publish d }, .okNumber 2 ((s.tps.publish d).slot d.slot).revision) := by
  simp [templateEnd, h, hc]

theorem templateEnd_failed {d : Definition} {r : RefuseReason} (h : s.tps.definition = some d) (hc : endCheck d s.tps = some r) :
    templateEnd s = ({ s with tps := s.tps.cancel }, .refuse r) := by
  simp [templateEnd, h, hc]

/-! ### Deletion (R112) -/

/-- Clearing an overlay writes that overlay and the label directory and queue alone. -/
theorem clearOverlay_some {n : Nat} {o : Overlay} (h : s.tps.overlay n = some o) : clearOverlay n s =
    { s with
      tps := { s.tps with overlays := tset s.tps.overlays n none }, lrc := s.lrc.overlayNotice s.now o.first o.last } := by
  simp [clearOverlay, h, State.onLrc, State.now]

/-- One step of clearing the overlays of a slot. -/
def clearIfOf (n : Nat) (s : State) (i : Nat) : State :=
  match s.tps.overlay i with
  | some o => if o.slot = n then clearOverlay i s else s
  | none => s

theorem clearOverlaysOf_eq (n : Nat) : clearOverlaysOf n s = (List.range 4).foldl (clearIfOf n) s := rfl

/-- What clearing overlays of a slot leaves: every binding, every overlay of another slot, and all but the overlays and the labels' causes. -/
structure ClearsOverlays (n : Nat) (done : Nat → Prop) (s t : State) : Prop where
  frame : t = { s with
    tps := { s.tps with overlays := t.tps.overlays }
    lrc := { s.lrc with directory := t.lrc.directory, queue := t.lrc.queue, nextSerial := t.lrc.nextSerial } }
  labels : ∀ b e, s.lrc.entry b = some e → ∃ f, t.lrc.entry b = some f ∧ e.SameBinding f
  cleared : ∀ i, done i → (t.tps.overlay i).map (·.slot) ≠ some n
  others : ∀ i, t.tps.overlay i = s.tps.overlay i ∨ (s.tps.overlay i).map (·.slot) = some n ∧ t.tps.overlay i = none

theorem clearsOverlays_step (n i : Nat) (s : State) : ClearsOverlays n (· = i) s (clearIfOf n s i) := by
  have hrefl (hi : (s.tps.overlay i).map (·.slot) ≠ some n) : ClearsOverlays n (· = i) s s :=
    ⟨rfl, fun b e he => ⟨e, he, rfl, rfl, rfl, rfl, rfl⟩, fun j hj => hj ▸ hi, fun _ => .inl rfl⟩
  unfold clearIfOf
  split
  · next o ho =>
    split
    · next hn =>
      have hov (j : Nat) : (clearOverlay i s).tps.overlay j = if i = j ∧ i < 4 then none else s.tps.overlay j := by
        rw [clearOverlay_some ho]
        exact tget_tset ..
      refine ⟨?_, fun b e he => ?_, fun j hj => ?_, fun j => ?_⟩
      · rw [clearOverlay_some ho, LabelRadio.overlayNotice_frame]
      · rw [clearOverlay_some ho]
        exact LabelRadio.sameBinding_overlayNotice _ _ _ he
      · subst hj
        rw [hov]
        split
        · simp
        · next h =>
          have hout : s.tps.overlay j = none := by
            have : ¬ j < 4 := fun hlt => h ⟨rfl, hlt⟩
            simp [TemplateStore.overlay, tget, this]
          simp [hout]
      · rw [hov]
        split
        · next h => exact .inr ⟨by rw [← h.1, ho]; simp [hn], rfl⟩
        · exact .inl rfl
    · next hn => exact hrefl (by rw [ho]; simpa using hn)
  · next ho => exact hrefl (by simp [ho])

theorem ClearsOverlays.trans {n : Nat} {p q : Nat → Prop} {s t u : State} (h : ClearsOverlays n p s t) (g : ClearsOverlays n q t u) :
    ClearsOverlays n (fun i => p i ∨ q i) s u where
  frame := by rw [g.frame, h.frame]
  labels b e he := by
    obtain ⟨f, hf, hef⟩ := h.labels b e he
    obtain ⟨k, hk, hfk⟩ := g.labels b f hf
    exact ⟨k, hk, hef.trans hfk⟩
  cleared i hi := by
    rcases hi with hp | hq
    · rcases g.others i with hsame | ⟨-, hnone⟩
      · rw [hsame]; exact h.cleared i hp
      · simp [hnone]
    · exact g.cleared i hq
  others i := by
    rcases g.others i with hsame | ⟨hslot, hnone⟩
    · rw [hsame]; exact h.others i
    · rcases h.others i with hs | ⟨hs, -⟩
      · exact .inr ⟨hs ▸ hslot, hnone⟩
      · exact .inr ⟨hs, hnone⟩

theorem clearsOverlays_foldl (n : Nat) (is : List Nat) (s : State) : ClearsOverlays n (· ∈ is) s (is.foldl (clearIfOf n) s) := by
  induction is generalizing s with
  | nil => exact ⟨rfl, fun b e he => ⟨e, he, rfl, rfl, rfl, rfl, rfl⟩, fun i hi => absurd hi List.not_mem_nil, fun _ => .inl rfl⟩
  | cons i is ih =>
    have h := (clearsOverlays_step n i s).trans (ih (clearIfOf n s i))
    exact ⟨h.frame, h.labels, fun j hj => h.cleared j (List.mem_cons.mp hj), h.others⟩

theorem clearsOverlays_all (n : Nat) (s : State) : ClearsOverlays n (· < 4) s (clearOverlaysOf n s) := by
  have h := clearsOverlays_foldl n (List.range 4) s
  exact ⟨h.frame, h.labels, fun i hi => h.cleared i (List.mem_range.mpr hi), h.others⟩

/-- The open definition cancelled where it is for a slot: what stands afterwards. -/
theorem cancelFor_spec (n : Nat) (s : State) :
    cancelFor n s = { s with tps := { s.tps with slots := (cancelFor n s).tps.slots, definition := (cancelFor n s).tps.definition } } ∧
    (cancelFor n s).tps.definition = (if s.tps.definition.map (·.slot) = some n then none else s.tps.definition) ∧
    ((cancelFor n s).tps.slot n).revision = (s.tps.slot n).revision ∧
    ∀ m, m ≠ n → (cancelFor n s).tps.slot m = s.tps.slot m := by
  unfold cancelFor
  split
  · next d hd =>
    split
    · next hn =>
      have hframe := cancel_frame s.tps
      have hdef : s.tps.cancel.definition = none := by rw [hframe]
      refine ⟨?_, ?_, (slot_cancel_kept s.tps n).2.1, fun m hm => ?_⟩
      · dsimp only
        rw [hdef]
        exact congrArg (fun t => { s with tps := t }) hframe
      · simp [hd, hn, hdef]
      · rw [slot_cancel hd, if_neg fun h => hm (h.1.symm.trans hn)]
    · next hn => exact ⟨rfl, by simp [hd, hn], rfl, fun _ _ => rfl⟩
  · next hd => exact ⟨rfl, by simp [hd], rfl, fun _ _ => rfl⟩

/-- A slot deleted: the slot, the labels, the overlays and the walk list, and nothing else (R112). -/
theorem deleteSlot_spec {n : Nat} (hn : n < 64) (s : State) :
    let t := deleteSlot n s
    t = { s with
      tps := { s.tps with
        slots := t.tps.slots, definition := t.tps.definition, overlays := t.tps.overlays
        walks := s.tps.walks ++ [⟨.delete, n, (s.tps.slot n).revision, none, 0⟩] }
      lrc := { s.lrc with directory := t.lrc.directory, queue := t.lrc.queue, nextSerial := t.lrc.nextSerial } } ∧
    t.tps.slot n = ⟨.empty, none, (s.tps.slot n).revision, none⟩ ∧ (∀ m, m ≠ n → t.tps.slot m = s.tps.slot m) ∧
    t.tps.definition = (if s.tps.definition.map (·.slot) = some n then none else s.tps.definition) ∧
    (∀ i, i ≤ 3 → t.tps.overlay i = if (s.tps.overlay i).map (·.slot) = some n then none else s.tps.overlay i) ∧
    (s.labelsOrdered → ∀ a e, s.lrc.entry a = some e → ∃ e', t.lrc.entry a = some e' ∧ e'.item = e.item ∧
      e'.template = if e.template = n then 0 else e.template) := by
  obtain ⟨hcframe, hcdef, hcrev, hcother⟩ := cancelFor_spec n s
  generalize hc : cancelFor n s = c at hcframe hcdef hcrev hcother
  let x := c.tps.slot n
  let u : State := { c with tps := c.tps.setSlot n ⟨.empty, none, x.revision, none⟩ }
  let v : State := u.onLrc fun l => (l.onTemplate n).foldl (fun l a => l.rebindNotice u.now a) l
  have hw := clearsOverlays_all n v
  have ht : deleteSlot n s = { clearOverlaysOf n v with tps := { (clearOverlaysOf n v).tps with
      walks := (clearOverlaysOf n v).tps.walks ++ [⟨.delete, n, x.revision, none, 0⟩] } } := by
    unfold deleteSlot
    rw [hc]
  have hlrc : v.lrc = { s.lrc with
      directory := v.lrc.directory, queue := v.lrc.queue, nextSerial := v.lrc.nextSerial } := by
    have hs : c.lrc = s.lrc := by rw [hcframe]
    rw [← hs]
    exact LabelRadio.foldl_frame (fun l a => LabelRadio.rebindNotice_frame u.now a l) _ c.lrc
  intro t
  simp only [t, ht]
  have hslot : ∀ m, (clearOverlaysOf n v).tps.slot m = u.tps.slot m := by intro m; rw [hw.frame]; rfl
  refine ⟨?_, ?_, ?_, ?_, ?_, ?_⟩
  · rw [hw.frame, hlrc]
    simp only [v, u, x, State.onLrc, hcrev]
    rw [hcframe]
    rfl
  · refine (hslot n).trans ?_
    rw [slot_setSlot_same _ _ hn, hcrev]
  · intro m hm
    exact (hslot m).trans ((slot_setSlot_ne _ _ (Ne.symm hm)).trans (hcother m hm))
  · rw [hw.frame]
    exact hcdef
  · intro i hi
    have hv : v.tps.overlay i = s.tps.overlay i := by
      have : v.tps.overlays = s.tps.overlays := by simp only [v, u, State.onLrc]; rw [hcframe]; rfl
      unfold TemplateStore.overlay
      rw [this]
    have hcl := hw.cleared i (by omega)
    have hot := hw.others i
    rw [hv] at hot
    change (clearOverlaysOf n v).tps.overlay i = _
    rcases hot with hsame | ⟨hs, hnone⟩
    · rw [hsame] at hcl ⊢
      rw [if_neg hcl]
    · rw [hnone, if_pos hs]
  · intro hord a e he
    have hs : c.lrc = s.lrc := by rw [hcframe]
    obtain ⟨f, hf, hi, ha, htm⟩ := LabelRadio.entry_rebind_onTemplate (n := n) (now := u.now) (l := c.lrc) (b := a)
      (by rw [hs]; exact hord) (by rw [hs]; exact he)
    obtain ⟨g, hg, hfg⟩ := hw.labels a f hf
    exact ⟨g, hg, hfg.item.trans hi, hfg.template.trans htm⟩

/-! ### Overlays (R113, R114) -/

/-- The notice for an overlay's old range leaves a label away from it, and leaves all else of the label radio but directory and queue. -/
theorem noticeOld_spec (o : Option Overlay) (s : State) :
    noticeOld o s = { s with lrc := { s.lrc with
      directory := (noticeOld o s).lrc.directory, queue := (noticeOld o s).lrc.queue, nextSerial := (noticeOld o s).lrc.nextSerial } } ∧
    (s.labelsOrdered → (noticeOld o s).lrc.Ordered) ∧
    (∀ b e, s.lrc.entry b = some e → ∃ f, (noticeOld o s).lrc.entry b = some f ∧ f.addr = e.addr ∧
      (e.state = .idle → f.state = .idle ∨ (f.state = .queued ∧ f.owed = some .template))) ∧
    (s.labelsOrdered → ∀ b e, s.lrc.entry b = some e → (∀ x, o = some x → ¬(x.first ≤ e.addr.rail ∧ e.addr.rail ≤ x.last)) →
      (noticeOld o s).lrc.entry b = some e) := by
  cases o with
  | none => exact ⟨rfl, id, fun b e he => ⟨e, he, rfl, .inl⟩, fun _ b e he _ => he⟩
  | some x =>
    refine ⟨?_, fun h => (LabelRadio.keeps_overlayNotice s.now x.first x.last s.lrc).ordered h, fun b e he => ?_, fun h b e he hx => ?_⟩
    · exact congrArg (fun l => { s with lrc := l }) (LabelRadio.overlayNotice_frame s.now x.first x.last s.lrc)
    · have hentry := LabelRadio.entry_overlayNotice s.now x.first x.last s.lrc b
      rw [he, Option.map_some] at hentry
      refine ⟨_, hentry, (e.iterate_caused_sameBinding _ _).addr, fun hs => ?_⟩
      rcases Nat.eq_zero_or_pos (LabelRadio.hits b ((s.lrc.directory.filter fun e =>
          decide (x.first ≤ e.addr.rail) && decide (e.addr.rail ≤ x.last)).map (·.addr))) with h0 | hpos
      · rw [h0]; exact .inl hs
      · exact .inr (LabelEntry.iterate_caused_of_idle hs hpos)
    · exact LabelRadio.entry_overlayNotice_away h he (hx x rfl)

/-- An overlay set writes its entry and the stamp counter, and gives the notices for the old range and the new. -/
theorem setOverlay_eq (a : OverlayArgs) (s : State) : setOverlay a s = { s with
    tps := { s.tps with
      overlayCounter := next32 s.tps.overlayCounter
      overlays := tset s.tps.overlays a.overlay (some ⟨a.slot, a.first, a.last, next32 s.tps.overlayCounter⟩) }
    lrc := (noticeOld (s.tps.overlay a.overlay) s).lrc.overlayNotice s.now a.first a.last } := by
  unfold setOverlay noticeOld
  split <;> rfl

/-! ### Walks (R111) -/

theorem endWalk_cons {w : WalkEntry} {ws : List WalkEntry} (h : s.tps.walks = w :: ws) : endWalk s =
    ({ s with tps := { s.tps with walks := ws } }).report (.templateDone w.kind w.slot w.revision w.noticed .complete) := by
  simp [endWalk, h]

theorem visitLabel_eq (w : WalkEntry) (ws : List WalkEntry) (e : LabelEntry) (s : State) : visitLabel w ws e s =
    { s with
      tps := { s.tps with walks :=
        { w with pos := some e.key, noticed := if s.tps.depends w.slot e then w.noticed + 1 else w.noticed } :: ws }
      lrc := if s.tps.depends w.slot e then s.lrc.cause s.now .template e.addr else s.lrc } := by
  unfold visitLabel
  dsimp only
  split <;> rfl

theorem templateWalk_none {w : WalkEntry} {ws : List WalkEntry} (h : s.tps.walks = w :: ws)
    (hn : nextAfter LabelEntry.key w.pos s.lrc.directory = none) : templateWalk s = endWalk s := by
  simp [templateWalk, h, hn]

theorem templateWalk_some {w : WalkEntry} {ws : List WalkEntry} {e : LabelEntry} (h : s.tps.walks = w :: ws)
    (hn : nextAfter LabelEntry.key w.pos s.lrc.directory = some e) : templateWalk s =
      if (nextAfter LabelEntry.key (some e.key) (visitLabel w ws e s).lrc.directory).isNone then endWalk (visitLabel w ws e s)
      else visitLabel w ws e s := by
  simp [templateWalk, h, hn]

/-- The label that a walk visits is its last exactly where no entry of the directory has a greater key. -/
theorem walk_last {w : WalkEntry} {ws : List WalkEntry} {e : LabelEntry} (hord : s.labelsOrdered) :
    (nextAfter LabelEntry.key (some e.key) (visitLabel w ws e s).lrc.directory).isNone = true ↔ ∀ x ∈ s.lrc.directory, x.key ≤ e.key := by
  have hkeys : (visitLabel w ws e s).lrc.directory.map LabelEntry.key = s.lrc.directory.map LabelEntry.key := by
    rw [visitLabel_eq]
    dsimp only
    split
    · exact LabelRadio.cause_keys _ _ _ hord
    · rfl
  rw [nextAfter_isNone, hkeys, List.forall_mem_map]

end Sys2Proof.Machine

namespace Sys2Proof.Proofs
open Sys2Proof.Machine

/-- Settles O40: each request and the expiry by what it makes of the open definition. -/
theorem definitionsOpenGrowAndPublish : Obligations.DefinitionsOpenGrowAndPublish := by
  intro tag s
  refine ⟨fun n htake hn hwalk => ?_, fun d htake hd => ⟨fun a e helem hlen => ?_, ?_, fun hslot => ?_⟩, fun d hrun hd hdue => ?_⟩
  · have hrunf : templateBegin n s = ({ s with tps := s.tps.cancel.begin n s.now s.elapsed }, .ok .empty (cancelNote s.tps.definition)) := by
      simp [templateBegin, hwalk]
      omega
    have hbegin (m : Nat) : (s.tps.cancel.begin n s.now s.elapsed).slot m =
        if n = m ∧ n < 64 then { s.tps.cancel.slot n with state := .defining } else s.tps.cancel.slot m := slot_setSlot n m _ _
    refine ⟨_, next_taken (f := withBody (some n) templateBegin) rfl htake hrunf, ?_, ?_, fun m hm => ?_, fun e he hle hne => ?_⟩
    · rw [cancelNote_eq]
      unfold TemplateStore.begin
      rw [cancel_frame]
      rfl
    · change ((s.tps.cancel.begin n s.now s.elapsed).slot n).state = _
      rw [hbegin, if_pos ⟨rfl, by omega⟩]
    · change ((s.tps.cancel.begin n s.now s.elapsed).slot m).content = _ ∧ ((s.tps.cancel.begin n s.now s.elapsed).slot m).revision = _ ∧
        ((s.tps.cancel.begin n s.now s.elapsed).slot m).permanence = _
      rw [hbegin]
      split
      · next h => rw [h.1]; exact slot_cancel_kept s.tps m
      · exact slot_cancel_kept s.tps m
    · change ((s.tps.cancel.begin n s.now s.elapsed).slot e.slot).state = _
      rw [hbegin, if_neg fun h => hne h.1.symm, slot_cancel he, if_pos ⟨rfl, by omega⟩]
      rfl
  · refine next_taken (f := withBody (some a) templateElement) rfl htake ?_
    have hnot : ¬ 16 ≤ d.elements.length := by omega
    simp [withBody, templateElement, hd, helem, hnot, Definition.append, Reply.okNumber]
  · refine ⟨_, next_taken (f := withoutBody true templateCancel) rfl htake (t := { s with tps := s.tps.cancel }) (r := .okay) ?_, ?_,
      fun m _ => (slot_cancel_kept s.tps m).1⟩
    · simp [withoutBody, templateCancel, hd]
    · rw [cancel_frame]
      rfl
  · cases hcheck : endCheck d s.tps with
    | none =>
      have hpub (m : Nat) : (s.tps.publish d).slot m =
          if d.slot = m ∧ d.slot < 64 then (s.tps.slot d.slot).publish d.elements else s.tps.slot m := slot_setSlot d.slot m _ _
      have hsame : (s.tps.publish d).slot d.slot = (s.tps.slot d.slot).publish d.elements := by rw [hpub, if_pos ⟨rfl, by omega⟩]
      refine ⟨_, next_taken (f := withoutBody true templateEnd) rfl htake (templateEnd_passed hd hcheck), rfl, rfl, fun _ _ _ => ?_,
        fun r hr => absurd (hcheck.symm.trans (endCheck_some hr)) nofun⟩
      refine ⟨hsame, fun m hm => ?_, ?_, rfl⟩
      · exact (hpub m).trans (if_neg fun h => hm h.1.symm)
      · change _ = s.tps.walks ++ [⟨.publish, d.slot, ((s.tps.publish d).slot d.slot).revision, none, 0⟩]
        rw [hsame]
        rfl
    | some r =>
      have hframe := cancel_frame s.tps
      refine ⟨_, next_taken (f := withoutBody true templateEnd) rfl htake (templateEnd_failed hd hcheck), ?_, ?_, fun h1 h2 h3 => ?_,
        fun r' hr => ?_⟩
      · exact congrArg TemplateStore.definition hframe
      · rw [hframe]
        rfl
      · exact absurd (hcheck.symm.trans (endCheck_none h1 h2 h3)) nofun
      · have hrr : r = r' := Option.some.inj (hcheck.symm.trans (endCheck_some hr))
        have hwalks : s.tps.cancel.walks = s.tps.walks := by rw [hframe]
        exact ⟨fun m _ => (slot_cancel_kept s.tps m).1, hwalks, by rw [hrr]; rfl⟩
  · refine ⟨_, next_running (f := expireDefinition) rfl hrun, ?_, fun m _ => ?_⟩
    · simp only [expireDefinition, hd, hdue, if_true]
      rw [cancel_frame]
      rfl
    · simp only [expireDefinition, hd, hdue, if_true]
      exact (slot_cancel_kept s.tps m).1

/-- Settles O41: permanence is one field of one slot; a deletion is what `deleteSlot_spec` says. -/
theorem deleteAndPermanence : Obligations.DeleteAndPermanence := by
  intro tag n s htake hn hholds
  have hle : ¬ 63 < n := by omega
  refine ⟨?_, fun h0 => ?_, fun h0 => ?_, fun h0 hwalk => ?_, fun h0 hwalk hord => ?_⟩
  · exact next_taken (f := withBody (some n) templateKeep) rfl htake (by simp [withBody, templateKeep, setPermanence, hle, hholds]; exact ⟨rfl, rfl⟩)
  · exact ⟨next_taken (f := withBody (some n) templateTemp) rfl htake (by simp [withBody, templateTemp, h0]; rfl),
      next_taken (f := withBody (some n) templateDelete) rfl htake (by simp [withBody, templateDelete, h0]; rfl)⟩
  · exact next_taken (f := withBody (some n) templateTemp) rfl htake
      (by simp [withBody, templateTemp, setPermanence, hle, h0, hholds]; exact ⟨rfl, rfl⟩)
  · exact next_taken (f := withBody (some n) templateDelete) rfl htake (by simp [withBody, templateDelete, hle, h0, hholds, hwalk]; rfl)
  · have hrun : templateDelete n s = (deleteSlot n s, .ok (.number 2 (s.lrc.onTemplate n).length) (deleteNote n s.tps)) := by
      simp [templateDelete, hle, h0, hholds, hwalk]
    have hspec := deleteSlot_spec (n := n) (by omega) s
    generalize deleteSlot n s = t at hspec hrun
    obtain ⟨hframe, hslot, hother, hdef, hover, hlabels⟩ := hspec
    have hnote : deleteNote n s.tps = if s.tps.definition.map (·.slot) = some n then [.cancelledOther n] else [] := by
      unfold deleteNote
      split
      · next d hd => simp [hd]
      · next hd => simp [hd]
    refine ⟨_, next_taken (f := withBody (some n) templateDelete) rfl htake hrun, ?_, hslot, hother, hdef, hover, hlabels hord⟩
    rw [hframe, hnote, LabelRadio.onTemplate, List.length_map]
    rfl

/-- The three clauses of O42 on OVERLAY-SET. -/
theorem overlaySet_notices {tag : Nat} {a : OverlayArgs} {s : State} (htake : s.canTake = true) (hn : a.overlay ≤ 3) (hs : a.slot ≤ 63)
    (hf : a.first ≤ a.last) (hl : a.last ≤ 1023) (hholds : s.tps.holds a.slot = true) (hord : s.labelsOrdered) :
    ∃ t, exec (.overlaySet tag (some a)) s = .next t ∧
      t = { s with
        tps := { s.tps with
          overlayCounter := next32 s.tps.overlayCounter
          overlays := tset s.tps.overlays a.overlay (some ⟨a.slot, a.first, a.last, next32 s.tps.overlayCounter⟩) }
        lrc := { s.lrc with directory := t.lrc.directory, queue := t.lrc.queue, nextSerial := t.lrc.nextSerial }
        msp := { s.msp with replies := s.msp.replies ++ [⟨tag, .okNumber 4 (next32 s.tps.overlayCounter), .request⟩] } } ∧
      (∀ b e, s.lrc.entry b = some e → e.state = .idle → a.first ≤ e.addr.rail → e.addr.rail ≤ a.last →
        ∃ e', t.lrc.entry b = some e' ∧ e'.state = .queued ∧ e'.owed = some .template) ∧
      (∀ b e, s.lrc.entry b = some e → ¬(a.first ≤ e.addr.rail ∧ e.addr.rail ≤ a.last) →
        (∀ o, s.tps.overlay a.overlay = some o → ¬(o.first ≤ e.addr.rail ∧ e.addr.rail ≤ o.last)) → t.lrc.entry b = some e) := by
  obtain ⟨hframe, hordered, hidle, haway⟩ := noticeOld_spec (s.tps.overlay a.overlay) s
  have hrun : overlaySet a s = (setOverlay a s, .okNumber 4 (next32 s.tps.overlayCounter)) := by
    simp [overlaySet, hn, hs, hf, hl, hholds]
  rw [setOverlay_eq] at hrun
  refine ⟨_, next_taken (f := withBody (some a) overlaySet) rfl htake hrun, ?_, fun b e he hst h1 h2 => ?_, fun b e he h1 h2 => ?_⟩
  · rw [LabelRadio.overlayNotice_frame, hframe]
    rfl
  · obtain ⟨f, hfe, haddr, hstate⟩ := hidle b e he
    rcases hstate hst with hi | ⟨hq, ho⟩
    · obtain ⟨g, hg, hgs, hgo, -⟩ := LabelRadio.entry_overlayNotice_idle (hordered hord) hfe hi (haddr ▸ h1) (haddr ▸ h2)
      exact ⟨g, hg, hgs, hgo⟩
    · exact LabelRadio.entry_overlayNotice_queued hfe hq ho
  · exact LabelRadio.entry_overlayNotice_away (hordered hord) (haway hord b e he h2) h1

/-- Settles O42: the two overlay notices, the clearing of one, and the walk's step by whether a label is left. -/
theorem overlaysAndWalksNoticeLabels : Obligations.OverlaysAndWalksNoticeLabels := by
  refine ⟨fun tag a s htake hn hs hf hl hholds hord => overlaySet_notices htake hn hs hf hl hholds hord,
    fun tag n s htake hn => ⟨fun hnone => ?_, fun o ho hord => ?_⟩, fun w ws s hrun hw hord => ?_⟩
  · refine next_taken (f := withBody (some n) overlayClear) rfl htake ?_
    have hle : ¬ 3 < n := by omega
    simp [withBody, overlayClear, hle, clearOverlay, hnone, Reply.okay]
  · have hrunf : overlayClear n s = (clearOverlay n s, .okay) := by
      have hle : ¬ 3 < n := by omega
      simp [overlayClear, hle]
    rw [clearOverlay_some ho] at hrunf
    refine ⟨_, next_taken (f := withBody (some n) overlayClear) rfl htake hrunf, ?_, fun b e he hst h1 h2 => ?_, fun b e he h1 => ?_⟩
    · rw [LabelRadio.overlayNotice_frame]
      rfl
    · obtain ⟨g, hg, hgs, hgo, -⟩ := LabelRadio.entry_overlayNotice_idle (now := s.now) hord he hst h1 h2
      exact ⟨g, hg, hgs, hgo⟩
    · exact LabelRadio.entry_overlayNotice_away hord he h1
  · intro next noticed
    have hnext : nextAfter LabelEntry.key w.pos s.lrc.directory = next := rfl
    clear_value next
    have hstep := next_running (c := .templateWalkStep) (f := templateWalk) rfl hrun
    cases next with
    | none =>
      rw [templateWalk_none hw hnext, endWalk_cons hw] at hstep
      exact ⟨_, hstep, rfl, fun _ => ⟨rfl, rfl, rfl⟩, fun e he => absurd he nofun⟩
    | some e =>
      rw [templateWalk_some hw hnext] at hstep
      have hlrc : (visitLabel w ws e s).lrc = if s.tps.depends w.slot e then s.lrc.cause s.now .template e.addr else s.lrc := by
        rw [visitLabel_eq]
      have hlrcFrame : (visitLabel w ws e s).lrc = { s.lrc with
          directory := (visitLabel w ws e s).lrc.directory, queue := (visitLabel w ws e s).lrc.queue
          nextSerial := (visitLabel w ws e s).lrc.nextSerial } := by
        rw [hlrc]
        split
        · exact LabelRadio.cause_frame ..
        · rfl
      have hwalks : (visitLabel w ws e s).tps.walks = { w with pos := some e.key, noticed := noticed e } :: ws := by rw [visitLabel_eq]
      have hvisit : visitLabel w ws e s = { s with
          tps := { s.tps with walks := (visitLabel w ws e s).tps.walks }, lrc := (visitLabel w ws e s).lrc } := by
        rw [visitLabel_eq]
      by_cases hlast : ∀ x ∈ s.lrc.directory, x.key ≤ e.key
      · rw [if_pos ((walk_last hord).mpr hlast), endWalk_cons hwalks] at hstep
        refine ⟨_, hstep, ?_, nofun, fun x hx => ?_⟩
        · rw [hvisit, hlrcFrame]
          rfl
        · cases hx
          refine ⟨fun hd => ?_, fun hd => ?_, fun ⟨x, hx, hlt⟩ => absurd (hlast x hx) (by omega), fun _ => ⟨rfl, ?_⟩⟩
          · exact hlrc.trans (if_neg (by simp [hd]))
          · exact hlrc.trans (if_pos hd)
          · rw [hvisit]
            rfl
      · rw [if_neg (mt (walk_last hord).mp hlast)] at hstep
        refine ⟨_, hstep, ?_, nofun, fun x hx => ?_⟩
        · rw [hvisit, hlrcFrame]
        · cases hx
          refine ⟨fun hd => ?_, fun hd => ?_, fun _ => ⟨hwalks, ?_⟩, fun h => absurd h hlast⟩
          · exact hlrc.trans (if_neg (by simp [hd]))
          · exact hlrc.trans (if_pos hd)
          · rw [hvisit]

end Sys2Proof.Proofs
end

section
/-! The label requests (05). -/

namespace Sys2Proof.Machine

variable {s : State}

/-! ### Item records and their labels (R6, R7) -/

theorem ItemRecord.relabel_spec (now : Nat) (ls : List BoundLabel) (r : ItemRecord) :
    (r.relabel now ls).code = r.code ∧ (r.relabel now ls).labels = ls ∧ (r.relabel now ls).version = r.version ∧
    (r.relabel now ls).current = r.current ∧ (r.relabel now ls).count = (r.relabel now ls).pendingCount ∧
    (r.relabel now ls).previous = previousAfter r.count (r.relabel now ls).count r.version r.current r.previous :=
  ⟨rfl, rfl, rfl, rfl, rfl, rfl⟩

theorem previousAfter_zero (old version : Nat) (current : Option PriceRecord) (previous : Option Previous) :
    previousAfter old 0 version current previous = none := by simp [previousAfter]

theorem bindNotice_some {code : Nat} {r : ItemRecord} (a : LabelAddr) (h : s.item code = some r) :
    bindNotice code a s = s.putItem (r.relabel s.now (r.labels ++ [⟨a, none, false⟩])) := by simp [bindNotice, h]

theorem unbindNotice_some {code : Nat} {r : ItemRecord} (a : LabelAddr) (h : s.item code = some r) :
    unbindNotice code a s = s.putItem (r.relabel s.now (r.labels.filter fun l => l.addr != a)) := by simp [unbindNotice, h]

theorem putItem_relabel_item {code : Nat} {r : ItemRecord} (now : Nat) (ls : List BoundLabel) (h : s.item code = some r) :
    (s.putItem (r.relabel now ls)).item code = some (r.relabel now ls) := by
  have hc : (r.relabel now ls).code = code := item_code (r := r) h
  have := putItem_item s (r.relabel now ls)
  rwa [hc] at this

theorem putItem_relabel_item_ne {code c : Nat} {r : ItemRecord} (now : Nat) (ls : List BoundLabel) (h : s.item code = some r) (hc : c ≠ code) :
    (s.putItem (r.relabel now ls)).item c = s.item c := by
  have hr : (r.relabel now ls).code = code := item_code (r := r) h
  exact putItem_item_ne s _ (hr ▸ hc)

/-- A label bound anew is counted: it has confirmed no version (R7). -/
theorem pendingCount_bound (now : Nat) (a : LabelAddr) (r : ItemRecord) : 0 < (r.relabel now (r.labels ++ [⟨a, none, false⟩])).count := by
  have h : (r.relabel now (r.labels ++ [⟨a, none, false⟩])).count =
      ((r.labels ++ [(⟨a, none, false⟩ : BoundLabel)]).filter (·.counted r.version)).length := rfl
  rw [h, List.filter_append]
  simp [BoundLabel.counted]

/-! ### The forms of a label request -/

theorem withLabel_known {a : LabelAddr} {template : Option Nat} (f : State → State × Reply) (hr : a.rail ≤ 1023) (hs : a.slot ≤ 23)
    (ht : ∀ n, template = some n → n ≤ 63) (hh : s.tps.holds (template.getD 0) = true) : withLabel a template f s = f s := by
  have hslot : slotOptOk template = true := by
    cases template with
    | none => rfl
    | some n => simpa [slotOptOk] using ht n rfl
  simp [withLabel, addrOk, hr, hs, hslot, hh]

theorem next_labelAdd {tag : Nat} {a : LabelAddArgs} {t : State} {r : Reply} (htake : s.canTake = true) (hr : a.addr.rail ≤ 1023)
    (hs : a.addr.slot ≤ 23) (ht : ∀ n, a.template = some n → n ≤ 63) (hh : s.tps.holds (a.template.getD 0) = true)
    (h : labelAdd a s = (t, r)) : exec (.labelAdd tag (some a)) s = .next (t.addReply tag .request r) :=
  next_taken (f := withBody (some a) fun a => withLabel a.addr a.template (labelAdd a)) rfl htake ((withLabel_known _ hr hs ht hh).trans h)

theorem next_labelBind {tag : Nat} {a : LabelBindArgs} {t : State} {r : Reply} (htake : s.canTake = true) (hc : codeOk a.code = true)
    (hr : a.addr.rail ≤ 1023) (hs : a.addr.slot ≤ 23) (ht : ∀ n, a.template = some n → n ≤ 63)
    (hh : s.tps.holds (a.template.getD 0) = true) (h : labelBind a s = (t, r)) :
    exec (.labelBind tag (some a)) s = .next (t.addReply tag .request r) := by
  refine next_taken (f := withBody (some a) fun a s =>
    if codeOk a.code then withLabel a.addr a.template (labelBind a) s else (s, .refuse .badField)) rfl htake ?_
  exact (if_pos hc).trans ((withLabel_known _ hr hs ht hh).trans h)

theorem withEntry_some {a : LabelAddr} {e : LabelEntry} (f : LabelEntry → State → State × Reply) (hr : a.rail ≤ 1023) (hs : a.slot ≤ 23)
    (he : s.lrc.entry a = some e) : withEntry a f s = f e s := by simp [withEntry, addrOk, hr, hs, he]

theorem withEntry_none {a : LabelAddr} (f : LabelEntry → State → State × Reply) (hr : a.rail ≤ 1023) (hs : a.slot ≤ 23)
    (he : s.lrc.entry a = none) : withEntry a f s = (s, .refused .notFound (.missing .label)) := by
  simp [withEntry, addrOk, hr, hs, he, Reply.notFound]

/-- An entry rewritten where it stands, and then reached by a cause of reason BIND. -/
theorem LabelRadio.entry_put_cause {l : LabelRadio} {a : LabelAddr} {e f : LabelEntry} (now : Nat) (he : l.entry a = some e)
    (hf : f.addr = e.addr) (b : LabelAddr) : ((l.put f).cause now .bind e.addr).entry b =
      if addrKey b = addrKey a then some (f.caused .bind) else l.entry b := by
  rw [LabelRadio.entry_cause, LabelRadio.entry_put_of_entry he hf, LabelRadio.addrKey_of_entry he]
  split <;> rfl

theorem LabelRadio.put_cause_frame (l : LabelRadio) (f : LabelEntry) (now : Nat) (r : Reason) (a : LabelAddr) :
    (l.put f).cause now r a = { l with
      directory := ((l.put f).cause now r a).directory, queue := ((l.put f).cause now r a).queue
      nextSerial := ((l.put f).cause now r a).nextSerial } :=
  LabelRadio.cause_frame now r a (l.put f)

/-- A template set on an entry: the template alone, and nothing at all where it is the one the label has (R96, R97). -/
theorem setTemplate_spec {a : LabelAddr} {e : LabelEntry} (n : Nat) (he : s.lrc.entry a = some e) :
    setTemplate n e s = { s with lrc := { s.lrc with
      directory := (setTemplate n e s).lrc.directory, queue := (setTemplate n e s).lrc.queue
      nextSerial := (setTemplate n e s).lrc.nextSerial } } ∧
    (∃ f, (setTemplate n e s).lrc.entry a = some f ∧ f.template = n ∧ f.item = e.item ∧ f.confirmed = e.confirmed ∧
      f.excluded = e.excluded) ∧
    (e.template = n → setTemplate n e s = s) := by
  unfold setTemplate
  split
  · next h => exact ⟨rfl, ⟨e, he, h, rfl, rfl, rfl⟩, fun _ => rfl⟩
  · next h =>
    refine ⟨?_, ?_, fun hc => absurd hc h⟩
    · exact congrArg (fun l => { s with lrc := l }) (LabelRadio.put_cause_frame s.lrc { e with template := n } s.now .bind e.addr)
    · have hc := LabelEntry.caused_sameBinding .bind { e with template := n }
      refine ⟨_, (LabelRadio.entry_put_cause (f := { e with template := n }) s.now he rfl a).trans (if_pos rfl), ?_⟩
      exact ⟨hc.template, hc.item, hc.confirmed, hc.excluded⟩

theorem labelAdd_new {a : LabelAddr} {n : Nat} (he : s.lrc.entry a = none) :
    labelAdd ⟨a, some n⟩ s = (s.onLrc fun l => l.create s.now a none n, .okay) := by simp [labelAdd, he]

theorem labelAdd_known {a : LabelAddr} {n : Nat} {e : LabelEntry} (he : s.lrc.entry a = some e) :
    labelAdd ⟨a, some n⟩ s = (setTemplate n e s, .ok .empty [.existed]) := by simp [labelAdd, he]

theorem bindRefusal_taken {r : ItemRecord} (h4 : r.labels.length < 4) (hc : r.current.isSome = true) : bindRefusal (some r) = none := by
  have hnone : r.current.isNone = false := by cases h : r.current <;> simp_all
  simp [bindRefusal, hnone]
  omega

theorem labelBind_new {a : LabelAddr} {n code : Nat} {r : ItemRecord} (he : s.lrc.entry a = none) (hr : s.item code = some r)
    (h4 : r.labels.length < 4) (hc : r.current.isSome = true) :
    labelBind ⟨a, code, some n⟩ s =
      ((s.putItem (r.relabel s.now (r.labels ++ [⟨a, none, false⟩]))).onLrc fun l => l.create s.now a (some code) n,
       .okNumber 1 (r.relabel s.now (r.labels ++ [⟨a, none, false⟩])).count) := by
  have hitem := putItem_relabel_item s.now (r.labels ++ [⟨a, none, false⟩]) hr
  simp only [labelBind, he, presentBind, hr, bindRefusal_taken h4 hc, bindNotice_some a hr, Option.getD_some, itemCount]
  rw [show (State.item code ((s.putItem (r.relabel s.now (r.labels ++ [⟨a, none, false⟩]))).onLrc fun l => l.create s.now a (some code) n)) = _
    from hitem]

/-- The part after a label is moved from one item to another (R97). -/
theorem rebind_eq {a : LabelAddr} {code old : Nat} {r o : ItemRecord} {e : LabelEntry} (hr : s.item code = some r) (ho : s.item old = some o)
    (hne : old ≠ code) (hea : e.addr = a) (hei : e.item = some old) :
    rebind ⟨a, code, none⟩ e s =
      ((s.putItem (o.relabel s.now (o.labels.filter fun l => l.addr != a))).putItem
        (r.relabel s.now (r.labels ++ [⟨a, none, false⟩]))).onLrc fun l =>
          (l.put { e with item := some code, confirmed := none, excluded := false }).cause s.now .bind a := by
  have hu : unbindOld e s = s.putItem (o.relabel s.now (o.labels.filter fun l => l.addr != a)) := by
    unfold unbindOld
    rw [hei, hea]
    exact unbindNotice_some a ho
  have hcode : (s.putItem (o.relabel s.now (o.labels.filter fun l => l.addr != a))).item code = some r := by
    rw [putItem_relabel_item_ne _ _ ho (Ne.symm hne), hr]
  unfold rebind
  rw [hu, bindNotice_some a hcode]
  rfl

theorem labelBind_moved {a : LabelAddr} {code old : Nat} {r : ItemRecord} {e : LabelEntry} (he : s.lrc.entry a = some e)
    (hei : e.item = some old) (hne : old ≠ code) (hr : s.item code = some r) (h4 : r.labels.length < 4) (hc : r.current.isSome = true) :
    labelBind ⟨a, code, none⟩ s = (rebind ⟨a, code, none⟩ e s, .okNumber 1 (itemCount code (rebind ⟨a, code, none⟩ e s))) := by
  simp [labelBind, he, hei, hne, presentBind, hr, bindRefusal_taken h4 hc]

/-- The entry of an address after its label is removed, and of every other. -/
theorem LabelRadio.entry_remove (l : LabelRadio) (a b : LabelAddr) :
    (l.remove a).entry b = if addrKey b = addrKey a then none else l.entry b := by
  split
  · next h => rw [LabelRadio.entry_congr h]; exact findKey_dropKey_same LabelEntry.key (addrKey a) l.directory
  · next h => exact findKey_dropKey_ne LabelEntry.key l.directory h

theorem LabelRadio.rail_setCodes {n : Nat} (hn : n ≤ 1023) (first last code : Nat) (l : LabelRadio) :
    (l.setCodes first last code).rail n = if first ≤ n ∧ n ≤ last then { l.rail n with code := code } else l.rail n := by
  have hlt : n < 1024 := by omega
  have hrail : ∀ v : Vector RailEntry 1024, tget v n RailEntry.cold = v[n] := fun v => by simp [tget, hlt]
  unfold LabelRadio.rail LabelRadio.setCodes
  rw [hrail, hrail, Vector.getElem_ofFn]
  rfl

end Sys2Proof.Machine

namespace Sys2Proof.Proofs
open Sys2Proof.Machine

/-- Settles O35, by what stands at the address: nothing, or an entry bound elsewhere. -/
theorem labelAddAndBindJoinTheQueue : Obligations.LabelAddAndBindJoinTheQueue := by
  intro tag a s htake hrail hslot
  refine ⟨fun n hn hholds he => ?_, fun n e hn hholds he => ?_, fun n code r hn hholds hcode hr h4 hcur he => ?_,
    fun code old r o e hcode hr h4 hcur hholds he hea hei hne ho => ?_⟩
  · refine ⟨_, next_labelAdd (a := ⟨a, some n⟩) htake hrail hslot (by simpa using hn) hholds (labelAdd_new he), rfl, ?_, fun b hb => ?_⟩
    · exact (LabelRadio.entry_create s.now a none n s.lrc a).trans (if_pos rfl)
    · exact (LabelRadio.entry_create s.now a none n s.lrc b).trans (if_neg hb)
  · obtain ⟨hframe, ⟨f, hf, ht, hi, hcf, hx⟩, hsame⟩ := setTemplate_spec n he
    refine ⟨_, f, next_labelAdd (a := ⟨a, some n⟩) htake hrail hslot (by simpa using hn) hholds (labelAdd_known he), ?_, hf, ht, hi, hcf,
      hx, fun h => ?_⟩
    · rw [hframe]
      rfl
    · change (setTemplate n e s).lrc = s.lrc
      rw [hsame h]
  · have hpos := pendingCount_bound s.now a r
    refine ⟨_, _, next_labelBind (a := ⟨a, code, some n⟩) htake hcode hrail hslot (by simpa using hn) hholds (labelBind_new he hr h4 hcur),
      rfl, ?_, putItem_relabel_item _ _ hr, fun c hc => putItem_relabel_item_ne _ _ hr hc, rfl, rfl, hpos, rfl, ?_⟩
    · exact (LabelRadio.entry_create s.now a (some code) n s.lrc a).trans (if_pos rfl)
    · refine (r.relabel_spec s.now (r.labels ++ [⟨a, none, false⟩])).2.2.2.2.2.trans ?_
      simp [previousAfter, hpos.ne']
  · subst hea
    let a := e.addr
    let u := s.putItem (o.relabel s.now (o.labels.filter fun l => l.addr != a))
    have hu : u.item code = some r := by rw [putItem_relabel_item_ne _ _ ho (Ne.symm hne), hr]
    have hnew : (u.putItem (r.relabel s.now (r.labels ++ [⟨a, none, false⟩]))).item code = _ := putItem_relabel_item _ _ hu
    have hrun := labelBind_moved he hei hne hr h4 hcur
    rw [rebind_eq hr ho hne rfl hei] at hrun
    have hcount : itemCount code ((u.putItem (r.relabel s.now (r.labels ++ [⟨a, none, false⟩]))).onLrc fun l =>
        (l.put { e with item := some code, confirmed := none, excluded := false }).cause s.now .bind a) =
        (r.relabel s.now (r.labels ++ [⟨a, none, false⟩])).count := by
      exact congrArg (fun x : Option ItemRecord => match x with | some r => r.count | none => 0) hnew
    rw [hcount] at hrun
    have hentry := LabelRadio.entry_put_cause (f := { e with item := some code, confirmed := none, excluded := false }) s.now he rfl a
    rw [if_pos rfl] at hentry
    have hbind := LabelEntry.caused_sameBinding .bind { e with item := some code, confirmed := none, excluded := false }
    refine ⟨_, _, o.relabel s.now (o.labels.filter fun l => l.addr != a), _, next_labelBind (a := ⟨a, code, none⟩) htake hcode hrail hslot (fun _ h => absurd h nofun) hholds hrun, ?_, hnew,
      ?_, fun c hc hco => ?_, rfl, rfl, rfl, rfl, hentry, hbind.item, hbind.template, hbind.confirmed, hbind.excluded⟩
    · dsimp only [State.onLrc]
      rw [LabelRadio.put_cause_frame]
      rfl
    · exact (putItem_relabel_item_ne _ _ hu hne).trans (putItem_relabel_item _ _ ho)
    · exact (putItem_relabel_item_ne _ _ hu hc).trans (putItem_relabel_item_ne _ _ ho hco)

/-- Settles O36, request by request. -/
theorem unbindRemoveRailsAndParams : Obligations.UnbindRemoveRailsAndParams := by
  refine ⟨fun tag a s htake hrail hslot => ⟨fun he => ?_, fun e he hea => ⟨fun hi => ?_, fun code r hi hr => ?_⟩⟩,
    fun tag s htake => ⟨fun a hfl hl hc => ?_, fun a hbad => ?_, fun a => ?_⟩⟩
  · exact ⟨next_taken (f := withBody (some a) fun a => withEntry a labelUnbind) rfl htake (withEntry_none _ hrail hslot he),
      next_taken (f := withBody (some a) fun a => withEntry a labelRemove) rfl htake (withEntry_none _ hrail hslot he)⟩
  · have hrem : labelRemove e s = (s.onLrc (·.remove e.addr), .okay) := by simp [labelRemove, unbindOld, hi]
    refine ⟨next_taken (f := withBody (some a) fun a => withEntry a labelUnbind) rfl htake
        ((withEntry_some _ hrail hslot he).trans (by simp [labelUnbind, hi]; rfl)), _,
      next_taken (f := withBody (some a) fun a => withEntry a labelRemove) rfl htake ((withEntry_some _ hrail hslot he).trans hrem), rfl, ?_⟩
    exact (LabelRadio.entry_remove s.lrc e.addr a).trans (if_pos (by rw [hea]))
  · subst hea
    have hunb : labelUnbind e s = ((s.putItem (r.relabel s.now (r.labels.filter fun l => l.addr != e.addr))).onLrc
        fun l => l.loseItem s.now e.addr, .okay) := by
      simp only [labelUnbind, hi, unbindNotice_some e.addr hr]
    have hrem : labelRemove e s = ((s.putItem (r.relabel s.now (r.labels.filter fun l => l.addr != e.addr))).onLrc (·.remove e.addr), .okay) := by
      simp only [labelRemove, unbindOld, hi, unbindNotice_some e.addr hr]
    refine ⟨_, _, _, next_taken (f := withBody (some e.addr) fun a => withEntry a labelUnbind) rfl htake
        ((withEntry_some _ hrail hslot he).trans hunb),
      next_taken (f := withBody (some e.addr) fun a => withEntry a labelRemove) rfl htake ((withEntry_some _ hrail hslot he).trans hrem),
      ?_, rfl, putItem_relabel_item _ _ hr, fun c hc => putItem_relabel_item_ne _ _ hr hc, rfl, rfl, fun h0 => ?_, ?_, ?_, fun b hb => ⟨?_, ?_⟩⟩
    · dsimp only [State.onLrc]
      rw [LabelRadio.loseItem_frame]
      rfl
    · have hprev := (r.relabel_spec s.now (r.labels.filter fun l => l.addr != e.addr)).2.2.2.2.2
      rw [h0, previousAfter_zero] at hprev
      exact hprev
    · obtain ⟨-, h1, h2, h3, h4⟩ := e.unbound_spec
      refine ⟨e.unbound, (LabelRadio.entry_loseItem s.now e.addr s.lrc e.addr).trans ?_, h1, h2, h3, h4⟩
      rw [if_pos rfl, he]
      rfl
    · exact (LabelRadio.entry_remove s.lrc e.addr e.addr).trans (if_pos rfl)
    · exact (LabelRadio.entry_loseItem s.now e.addr s.lrc b).trans (if_neg hb)
    · exact (LabelRadio.entry_remove s.lrc e.addr b).trans (if_neg hb)
  · have hnum : a.last + 1 - a.first = a.last - a.first + 1 := by omega
    have hrun : railSet a s = ({ s with lrc := { s.lrc with rails := (s.lrc.setCodes a.first a.last a.code).rails } },
        .okNumber 2 (a.last - a.first + 1)) := by
      simp [railSet, hfl, hl, hc, hnum, State.onLrc, LabelRadio.setCodes]
    have hrails (n : Nat) (hn : n ≤ 1023) := LabelRadio.rail_setCodes hn a.first a.last a.code s.lrc
    unfold LabelRadio.rail at hrails
    generalize (s.lrc.setCodes a.first a.last a.code).rails = rails at hrun hrails
    exact ⟨_, next_taken (f := withBody (some a) railSet) rfl htake hrun, rfl, hrails⟩
  · refine next_taken (f := withBody (some a) railSet) rfl htake ?_
    have hnot : ¬(a.first ≤ a.last ∧ a.last ≤ 1023 ∧ a.code ≤ 255) := by omega
    simp [withBody, railSet, hnot, Reply.refuse]
  · refine next_taken (f := withBody (some a) labelParams) rfl htake ?_
    simp only [withBody, labelParams, Reply.okClamped, ← Bool.decide_or, clamp_ne_iff, or_assoc, decide_eq_true_eq]
    rfl

end Sys2Proof.Proofs
end

section
/-! The cutover: its finish, its drain and its requests (10), and what the tills keep of a lost lane through them. -/

namespace Sys2Proof.Machine

variable {s : State}

/-! ### The temporary templates deleted (R116) -/

theorem temporary_setSlot_empty {n m : Nat} {t u : TemplateStore} (h : u.slot n = ⟨.empty, none, (t.slot n).revision, none⟩)
    (hm : m = n) : u.temporary m = false := by
  subst hm
  simp [TemplateStore.temporary, TemplateStore.holds, h]

theorem temporary_congr {n : Nat} {t u : TemplateStore} (hc : (u.slot n).content = (t.slot n).content)
    (hp : (u.slot n).permanence = (t.slot n).permanence) : u.temporary n = t.temporary n := by
  simp [TemplateStore.temporary, TemplateStore.holds, hc, hp]

/-- What deleting temporary templates leaves: those named gone, every slot that is not temporary as it was, and of the part no more written
than the templates, the labels and the reports. -/
structure DeletesTemplates (done : Nat → Prop) (s t : State) : Prop where
  frame : t = { s with
    tps := { s.tps with
      slots := t.tps.slots, definition := t.tps.definition, overlays := t.tps.overlays, walks := t.tps.walks }
    lrc := { s.lrc with directory := t.lrc.directory, queue := t.lrc.queue, nextSerial := t.lrc.nextSerial }
    msp := { s.msp with reports := t.msp.reports } }
  gone : ∀ n, done n → t.tps.temporary n = false
  others : ∀ n, s.tps.temporary n = false → t.tps.slot n = s.tps.slot n

theorem DeletesTemplates.refl {done : Nat → Prop} (h : ∀ n, done n → s.tps.temporary n = false) : DeletesTemplates done s s :=
  ⟨rfl, h, fun _ _ => rfl⟩

theorem DeletesTemplates.trans {p q : Nat → Prop} {s t u : State} (h : DeletesTemplates p s t) (g : DeletesTemplates q t u) :
    DeletesTemplates (fun n => p n ∨ q n) s u where
  frame := by rw [g.frame, h.frame]
  gone n hn := by
    rcases hn with hp | hq
    · rw [temporary_congr (t := t.tps) (by rw [g.others n (h.gone n hp)]) (by rw [g.others n (h.gone n hp)])]
      exact h.gone n hp
    · exact g.gone n hq
  others n hn := by
    have hsame := h.others n hn
    exact (g.others n ((temporary_congr (by rw [hsame]) (by rw [hsame])).trans hn)).trans hsame

theorem reports_foldl_frame {α : Type} (b : α → ReportBody) (l : List α) (s : State) :
    let t := l.foldl (fun s x => s.report (b x)) s
    t = { s with msp := { s.msp with reports := t.msp.reports } } := by
  induction l generalizing s with
  | nil => rfl
  | cons x l ih => exact ih (s.report (b x))

theorem stopWalks_frame (n : Nat) (s : State) : stopWalks n s = { s with
    tps := { s.tps with walks := s.tps.walks.filter fun w => w.slot != n }
    msp := { s.msp with reports := (stopWalks n s).msp.reports } } := reports_foldl_frame _ _ _

theorem cancelAtCutover_spec (n : Nat) (s : State) :
    cancelAtCutover n s = { s with
      tps := { s.tps with slots := (cancelAtCutover n s).tps.slots, definition := (cancelAtCutover n s).tps.definition }
      msp := { s.msp with reports := (cancelAtCutover n s).msp.reports } } ∧
    ∀ m, m ≠ n → (cancelAtCutover n s).tps.slot m = s.tps.slot m := by
  unfold cancelAtCutover
  split
  · next d hd =>
    split
    · next hn =>
      refine ⟨?_, fun m hm => ?_⟩
      · have hframe := cancel_frame s.tps
        have hdef : s.tps.cancel.definition = none := by rw [hframe]
        dsimp only [State.report, MessagePort.report]
        rw [hdef]
        exact congrArg (fun t => State.report (.templateCancelled n d.elements.length .cutover) { s with tps := t }) hframe
      · exact (slot_cancel hd m).trans (if_neg fun h => hm (h.1.symm.trans hn))
    · exact ⟨rfl, fun _ _ => rfl⟩
  · exact ⟨rfl, fun _ _ => rfl⟩

/-- One slot of the cutover's deletion (R116). -/
def deleteIfTemporary (acc : State × Nat × Nat) (n : Nat) : State × Nat × Nat :=
  if acc.1.tps.temporary n then
    let s := cancelAtCutover n (stopWalks n acc.1)
    (deleteSlot n s, acc.2.1 + 1, acc.2.2 + (s.lrc.onTemplate n).length)
  else acc

theorem deletesTemplates_step {n : Nat} (hn : n < 64) (acc : State × Nat × Nat) :
    DeletesTemplates (· = n) acc.1 (deleteIfTemporary acc n).1 := by
  unfold deleteIfTemporary
  split
  · next htemp =>
    have hstop := stopWalks_frame n acc.1
    obtain ⟨hcancel, hcother⟩ := cancelAtCutover_spec n (stopWalks n acc.1)
    have hdel := deleteSlot_spec hn (cancelAtCutover n (stopWalks n acc.1))
    dsimp only at hdel ⊢
    generalize deleteSlot n (cancelAtCutover n (stopWalks n acc.1)) = t at hdel ⊢
    obtain ⟨hframe, hslot, hother, -⟩ := hdel
    refine ⟨?_, fun m hm => temporary_setSlot_empty hslot hm, fun m hm => ?_⟩
    · rw [hframe, hcancel, hstop]
    · have hne : m ≠ n := fun he => by rw [he, htemp] at hm; exact absurd hm nofun
      rw [hother m hne, hcother m hne, hstop]
      rfl
  · next htemp => exact .refl fun m hm => by rw [hm]; simpa using htemp

theorem deletesTemplates_foldl (ns : List Nat) (h : ∀ n ∈ ns, n < 64) (acc : State × Nat × Nat) :
    DeletesTemplates (· ∈ ns) acc.1 (ns.foldl deleteIfTemporary acc).1 := by
  induction ns generalizing acc with
  | nil => exact .refl fun n hn => absurd hn List.not_mem_nil
  | cons n ns ih =>
    have hstep := (deletesTemplates_step (h n List.mem_cons_self) acc).trans (ih (fun m hm => h m (List.mem_cons_of_mem _ hm)) _)
    exact ⟨hstep.frame, fun m hm => hstep.gone m (List.mem_cons.mp hm), hstep.others⟩

theorem deleteTemporary_eq (s : State) : deleteTemporary s = (List.range 64).foldl deleteIfTemporary (s, 0, 0) := rfl

theorem deletesTemplates_all (s : State) : DeletesTemplates (· < 64) s (deleteTemporary s).1 := by
  rw [deleteTemporary_eq]
  have h := deletesTemplates_foldl (List.range 64) (fun n hn => List.mem_range.mp hn) (s, 0, 0)
  exact ⟨h.frame, fun n hn => h.gone n (List.mem_range.mpr hn), h.others⟩

/-! ### The hold released (R62) -/

/-- Settling takes no session into LOST. -/
theorem Session.settledIn_of_lost {hold isOpen : Bool} {x : Session} (h : (x.settledIn hold isOpen).state = .lost) :
    x.settledIn hold isOpen = x := by
  unfold Session.settledIn at h ⊢
  split
  · next hp =>
    rw [if_pos hp] at h
    have := isPresent_settled x.lockout hold isOpen
    rw [show settled x.lockout hold isOpen = .lost from h] at this
    exact absurd this nofun
  · rfl

/-- The release order writes sessions, baskets and the hold alone; open baskets are MIXED_EPOCH, and no session leaves or enters LOST. -/
theorem releaseLanes_spec (s : State) :
    releaseLanes s = { s with tsu := { s.tsu with
      sessions := (releaseLanes s).tsu.sessions, baskets := (releaseLanes s).tsu.baskets, hold := false } } ∧
    (∀ lane, (releaseLanes s).basket lane = { s.basket lane with mixed := (s.basket lane).mixed || (s.basket lane).isOpen }) ∧
    (∀ lane, ((releaseLanes s).session lane).state = .lost → (releaseLanes s).session lane = s.session lane) := by
  let u : State := { s with tsu := { s.tsu with
    baskets := s.tsu.baskets.map fun b => if b.isOpen then { b with mixed := true } else b, hold := false } }
  have hbasket (lane : Nat) : u.basket lane = { s.basket lane with mixed := (s.basket lane).mixed || (s.basket lane).isOpen } := by
    refine (mixed_basket s lane).trans ?_
    cases s.basket lane
    split <;> simp_all
  unfold releaseLanes
  dsimp only
  split
  · obtain ⟨ss, hset, hsess⟩ := settleAll_spec u
    refine ⟨?_, fun lane => ?_, fun lane hl => ?_⟩
    · rw [hset]
    · rw [hset]
      exact hbasket lane
    · by_cases hlane : lane - 1 < 64
      · rw [hsess lane hlane] at hl ⊢
        exact Session.settledIn_of_lost hl
      · rw [hset]
        have hout : ∀ v : Vector Session 64, tget v (lane - 1) Session.cold = Session.cold := fun v => by simp [tget, hlane]
        exact (hout _).trans (hout _).symm
  · exact ⟨rfl, hbasket, fun _ _ => rfl⟩

/-! ### FINISH (R175) -/

/-- The part after FINISH, before a session that waits in VERIFY goes on (R175). -/
def finished (s : State) : State :=
  let d := deleteTemporary (advanceEpoch s)
  ((releaseLanes d.1).report (cutoverReport d.2.1 d.2.2 (releaseLanes d.1))).onCutover fun _ => .idle

theorem finishCutover_eq (s : State) : finishCutover s = tryStaging (finished s) := by
  unfold finishCutover finished
  generalize deleteTemporary (advanceEpoch s) = d
  rfl

theorem advanceEpoch_eq (s : State) : advanceEpoch s = { s with
    itb := { s.itb with
      epoch := if s.xce.cutover.epochAdvanced then s.itb.epoch else s.itb.epoch + 1
      pendingBatch := if s.xce.cutover.epochAdvanced then s.itb.pendingBatch else none }
    xce := { s.xce with cutover := { s.xce.cutover with epochAdvanced := true } } } := by
  unfold advanceEpoch
  by_cases h : s.xce.cutover.epochAdvanced = true
  · rw [if_pos h, if_pos h, if_pos h]
    conv_rhs => rw [← h]
  · rw [if_neg h, if_neg h, if_neg h]
    rfl

theorem finished_spec (s : State) :
    finished s = { s with
      itb := (advanceEpoch s).itb
      tsu := { s.tsu with sessions := (finished s).tsu.sessions, baskets := (finished s).tsu.baskets, hold := false }
      lrc := { s.lrc with
        directory := (finished s).lrc.directory, queue := (finished s).lrc.queue, nextSerial := (finished s).lrc.nextSerial }
      tps := { s.tps with
        slots := (finished s).tps.slots, definition := (finished s).tps.definition, overlays := (finished s).tps.overlays
        walks := (finished s).tps.walks }
      xce := { s.xce with cutover := .idle }
      msp := { s.msp with reports := (finished s).msp.reports } } ∧
    (∀ n, n < 64 → (finished s).tps.temporary n = false) ∧
    (∀ n, s.tps.temporary n = false → (finished s).tps.slot n = s.tps.slot n) ∧
    (∀ lane, (finished s).basket lane = { s.basket lane with mixed := (s.basket lane).mixed || (s.basket lane).isOpen }) ∧
    (∀ lane, ((finished s).session lane).state = .lost → (finished s).session lane = s.session lane) := by
  have hdel := deletesTemplates_all (advanceEpoch s)
  obtain ⟨hframe, hbasket, hlost⟩ := releaseLanes_spec (deleteTemporary (advanceEpoch s)).1
  have hfin : finished s = ((releaseLanes (deleteTemporary (advanceEpoch s)).1).report (cutoverReport
    (deleteTemporary (advanceEpoch s)).2.1 (deleteTemporary (advanceEpoch s)).2.2 (releaseLanes (deleteTemporary (advanceEpoch s)).1))).onCutover
      fun _ => .idle := by unfold finished; rfl
  generalize cutoverReport _ _ _ = body at hfin
  generalize (deleteTemporary (advanceEpoch s)).1 = d at *
  have htps : (finished s).tps = d.tps := by
    rw [hfin, onCutover_tps, report_tps, hframe]
  have hsession (lane : Nat) : d.session lane = s.session lane := by rw [hdel.frame, advanceEpoch_eq]; rfl
  have hbask (lane : Nat) : d.basket lane = s.basket lane := by rw [hdel.frame, advanceEpoch_eq]; rfl
  refine ⟨?_, fun n hn => ?_, fun n hn => ?_, fun lane => ?_, fun lane hl => ?_⟩
  · rw [hfin, hframe, hdel.frame, advanceEpoch_eq]
    rfl
  · rw [htps]
    exact hdel.gone n hn
  · rw [htps]
    have hadv : (advanceEpoch s).tps = s.tps := by rw [advanceEpoch_eq]
    exact (hdel.others n (hadv ▸ hn)).trans (by rw [hadv])
  · rw [hfin, ← hbask lane]
    exact hbasket lane
  · rw [hfin] at hl ⊢
    exact (hlost lane hl).trans (hsession lane)

theorem tryStaging_frame (s : State) : tryStaging s = { s with
    itb := { s.itb with pendingBatch := (tryStaging s).itb.pendingBatch }
    xce := { s.xce with
      session := (tryStaging s).xce.session, stagingBatch := (tryStaging s).xce.stagingBatch, walk := (tryStaging s).xce.walk } } := by
  unfold tryStaging
  split <;> rfl

theorem tryStaging_idle (h : s.xce.session.state = .idle) : tryStaging s = s := by
  simp [tryStaging, h]

/-! ### The drain (R173) -/

theorem drainEmpty_open (h : 0 < s.tsu.openCount) : drainEmpty s = s := by
  unfold drainEmpty
  rw [if_neg fun hc => by omega]

theorem drainEmpty_free (h : s.tsu.hold = false) : drainEmpty s = s := by simp [drainEmpty, h]

/-- The hold order writes sessions and the hold alone, and settles every present session under the hold (R61). -/
theorem holdLanes_spec (s : State) :
    holdLanes s = { s with tsu := { s.tsu with sessions := (holdLanes s).tsu.sessions, hold := true } } ∧
    ∀ lane, lane - 1 < 64 → (holdLanes s).session lane = (s.session lane).settledIn true (s.basket lane).isOpen := by
  obtain ⟨ss, hset, hsess⟩ := settleAll_spec { s with tsu := { s.tsu with hold := true } }
  refine ⟨?_, hsess⟩
  unfold holdLanes
  rw [hset]

theorem openCount_holdLanes (s : State) : (holdLanes s).tsu.openCount = s.tsu.openCount := by
  have hb : (holdLanes s).tsu.baskets = s.tsu.baskets := by rw [(holdLanes_spec s).1]
  unfold TillService.openCount
  rw [hb]

theorem startCutover_open (tag limit : Nat) (h : 0 < s.tsu.openCount) : startCutover tag limit s =
    holdLanes (s.onCutover fun _ => ⟨.drain, none, limit, tag, none, false, 0, 0, none, 0, some (s.elapsed + limit)⟩) := by
  refine drainEmpty_open ?_
  rw [openCount_holdLanes]
  exact h

theorem cutoverRequest_busy {f : State → State × Reply} (h : s.xce.cutover.state.underWay = true) :
    cutoverRequest f s = (s, .refused .busy .noDetail) := by simp [cutoverRequest, h, Reply.refuse]

theorem cutoverRequest_last {f : State → State × Reply} (h : s.xce.cutover.state.underWay = false) (he : s.itb.epoch = 4294967295) :
    cutoverRequest f s = (s, .refused .epochLimit .noDetail) := by simp [cutoverRequest, h, he, max32, Reply.refuse]

theorem cutoverRequest_taken (f : State → State × Reply) (h : s.xce.cutover.state.underWay = false) (he : s.itb.epoch < 4294967295) :
    cutoverRequest f s = f s := by
  have hlt : ¬ max32 ≤ s.itb.epoch := by unfold max32; omega
  simp [cutoverRequest, h, hlt]

/-- A clamped drain limit is noted, and one that is absent is not (R172). -/
theorem drainNote_eq (d : Option Nat) : drainNote d = if drainOf d = d.getD 300 then [] else [.clamped] := by
  cases d with
  | none => rfl
  | some n =>
    by_cases h : clamp 30 1800 n = n
    · simp [drainNote, drainOf, h]
    · simp [drainNote, drainOf, h]

end Sys2Proof.Machine

namespace Sys2Proof.Proofs
open Sys2Proof.Machine

/-- Settles O54: the two requests by the cutover's state and the epoch, the schedule by the clock, and the limit of the drain. -/
theorem cutoverSchedulesDrainsAndApplies : Obligations.CutoverSchedulesDrainsAndApplies := by
  refine ⟨fun tag drain time s htake => ?_, fun time s hrun hst htime => ⟨fun hlt => ?_, fun hle hopen => ?_⟩,
    fun d s hrun hst hend hdue hle hbatch hwalk => ?_⟩
  · intro limit note
    have hlimit : drainOf drain = limit := rfl
    have hnote : drainNote drain = note := (drainNote_eq drain).trans (by rw [hlimit])
    refine ⟨fun hst => ?_, fun hst => ⟨fun he => ?_, fun he hlt => ?_, fun he hopen => ?_⟩⟩
    · have hway : s.xce.cutover.state.underWay = true := by rcases hst with h | h | h <;> rw [h] <;> rfl
      exact ⟨next_taken (f := withBody (some drain) (cutoverNow tag)) rfl htake (cutoverRequest_busy hway),
        next_taken (f := cutoverAt tag ⟨time, drain⟩) rfl htake (cutoverRequest_busy hway)⟩
    all_goals have hway : s.xce.cutover.state.underWay = false := by rcases hst with h | h <;> rw [h] <;> rfl
    · exact next_taken (f := withBody (some drain) (cutoverNow tag)) rfl htake (cutoverRequest_last hway he)
    · refine next_taken (f := cutoverAt tag ⟨time, drain⟩) rfl htake ((cutoverRequest_taken _ hway he).trans ?_)
      rw [if_pos hlt, hlimit, hnote]
      rfl
    · have hrun : cutoverNow tag drain s = (startCutover tag limit s, .ok .empty (note ++ [.started])) :=
        (cutoverRequest_taken _ hway he).trans (by rw [cutoverStarts, hlimit, hnote])
      rw [startCutover_open tag limit hopen] at hrun
      have hspec := holdLanes_spec
        (s.onCutover fun _ => ⟨.drain, none, limit, tag, none, false, 0, 0, none, 0, some (s.elapsed + limit)⟩)
      generalize holdLanes _ = u at hspec hrun
      obtain ⟨hframe, hsess⟩ := hspec
      refine ⟨_, next_taken (f := withBody (some drain) (cutoverNow tag)) rfl htake hrun, ?_, fun lane hlane => ?_⟩
      · rw [hframe]
        rfl
      · have hl : lane - 1 < 64 := by simp [laneOk] at hlane; omega
        exact hsess lane hl
  · refine (next_running (f := scheduleDue) rfl hrun).trans ?_
    simp only [scheduleDue, hst, htime, if_neg (Nat.not_le.mpr hlt)]
  · have hstep : scheduleDue s = startCutover s.xce.cutover.startTag s.xce.cutover.drainLimit s := by
      simp only [scheduleDue, hst, htime, if_pos hle]
    rw [startCutover_open _ _ hopen] at hstep
    obtain ⟨hframe, -⟩ := holdLanes_spec (s.onCutover fun _ => ⟨.drain, none, s.xce.cutover.drainLimit, s.xce.cutover.startTag, none,
      false, 0, 0, none, 0, some (s.elapsed + s.xce.cutover.drainLimit)⟩)
    refine ⟨_, (next_running (f := scheduleDue) rfl hrun).trans (congrArg _ hstep), ?_, ?_, ?_⟩
    · rw [hframe]
      rfl
    · rw [hframe]
    · rw [hframe]
      rfl
  · refine (next_running (f := drainExpires) rfl hrun).trans ?_
    have hd : s.due s.xce.cutover.drainDue = true := by simp [State.due, hdue, hle]
    simp only [drainExpires, hd, if_true, endDrain, hst, hend, and_self]
    simp [proceedDrain, State.onCutover, hst, hwalk, hbatch]

/-- Settles O55: the walk has no record left, so the step is FINISH; the tills are served and no session waits. -/
theorem finishAdvancesTheEpochOnce : Obligations.FinishAdvancesTheEpochOnce := by
  intro mem s hrun hst hwalk hserving hpassed hidle
  have hnone : nextAfter ItemRecord.code s.xce.cutover.walkPos s.itb.items = none := by
    unfold nextAfter
    rw [List.find?_eq_none]
    intro x hx
    obtain ⟨k, hk, hle⟩ := hpassed x hx
    rw [hk]
    simpa using hle
  obtain ⟨hframe, hgone, hothers, hbasket, -⟩ := finished_spec s
  have hstage : tryStaging (finished s) = finished s := tryStaging_idle (by rw [hframe]; exact hidle)
  have hserve : serveIfFree mem (finished s) = finished s := by
    unfold serveIfFree
    rw [if_neg fun h => absurd h.1 (by rw [hframe]; exact (Bool.eq_false_iff.mp · hserving))]
  have hstep : applyWalk mem s = finished s := by
    simp only [applyWalk, hst, hwalk, and_self, if_true, applyStep, hnone, finishCutover_eq, hstage, hserve]
  refine ⟨_, (next_running (f := applyWalk mem) rfl hrun).trans (congrArg _ hstep), ?_, ?_, ?_, fun n hn => hgone n (by omega),
    fun n _ hn => hothers n hn, fun lane _ => hbasket lane, ?_, ?_, ?_, ?_⟩
  · rw [hframe, advanceEpoch_eq]
  all_goals rw [hframe]
  rfl

end Sys2Proof.Proofs
end

section
/-! The till requests and the Till Service Unit's own timers (03). -/

namespace Sys2Proof.Machine

variable {s : State}

theorem lane_lt {lane : Nat} (h : laneOk lane = true) : lane - 1 < 64 := by simp [laneOk] at h; omega

theorem lane_ne {lane l : Nat} (h : laneOk lane = true) (hl : laneOk l = true) (hne : l ≠ lane) : lane - 1 ≠ l - 1 := by
  simp [laneOk] at h hl; omega

theorem session_setSession_ne {lane l : Nat} (x : Session) (h : laneOk lane = true) (hl : laneOk l = true) (hne : l ≠ lane) :
    (s.setSession lane x).session l = s.session l := by
  rw [session_setSession, if_neg fun hc => lane_ne h hl hne hc.1]

theorem basket_setBasket_ne {lane l : Nat} (b : Basket) (h : laneOk lane = true) (hl : laneOk l = true) (hne : l ≠ lane) :
    (s.setBasket lane b).basket l = s.basket l := by
  rw [basket_setBasket, if_neg fun hc => lane_ne h hl hne hc.1]

theorem session_setSession_same {lane : Nat} (x : Session) (h : laneOk lane = true) : (s.setSession lane x).session lane = x :=
  setSession_session s lane x (lane_lt h)

theorem withLane_ok {lane : Nat} (f : Nat → State → State × Reply) (h : laneOk lane = true) : withLane lane f s = f lane s := by
  simp [withLane, h]

theorem withLane_bad {lane : Nat} (f : Nat → State → State × Reply) (h : laneOk lane = false) :
    withLane lane f s = (s, .refused .badField .noDetail) := by simp [withLane, h, Reply.refuse]

/-! ### What expiring windows keeps -/

/-- What the judging of the reconnect windows keeps, whatever it brings about: all that TILL-PARAMS does not concern, and each lane that is
LOST afterwards as it was. -/
structure TillCalm (s t : State) : Prop where
  roster : t.tsu.roster = s.tsu.roster
  pollPeriod : t.tsu.pollPeriod = s.tsu.pollPeriod
  window : t.tsu.window = s.tsu.window
  zfw : t.zfw = s.zfw
  gat : t.gat = s.gat
  uls : t.uls = s.uls
  power : t.power = s.power
  clock : t.msp.clock = s.msp.clock
  replies : t.msp.replies = s.msp.replies
  lost : ∀ l, (t.session l).state = .lost → t.session l = s.session l

namespace TillCalm

variable {s t u : State}

theorem refl (s : State) : TillCalm s s := ⟨rfl, rfl, rfl, rfl, rfl, rfl, rfl, rfl, rfl, fun _ _ => rfl⟩

theorem trans (h : TillCalm s t) (g : TillCalm t u) : TillCalm s u where
  roster := g.roster.trans h.roster
  pollPeriod := g.pollPeriod.trans h.pollPeriod
  window := g.window.trans h.window
  zfw := g.zfw.trans h.zfw
  gat := g.gat.trans h.gat
  uls := g.uls.trans h.uls
  power := g.power.trans h.power
  clock := g.clock.trans h.clock
  replies := g.replies.trans h.replies
  lost l hl := by
    have heq := g.lost l hl
    exact heq.trans (h.lost l (heq ▸ hl))

theorem elapsed (h : TillCalm s t) : t.elapsed = s.elapsed := congrArg BranchClock.elapsed h.clock

end TillCalm

theorem calm_setBasket (lane : Nat) (b : Basket) (s : State) : TillCalm s (s.setBasket lane b) :=
  ⟨rfl, rfl, rfl, rfl, rfl, rfl, rfl, rfl, rfl, fun _ _ => rfl⟩

theorem calm_setSession {lane : Nat} {x : Session} (h : x.state = .lost → x = s.session lane) : TillCalm s (s.setSession lane x) := by
  refine ⟨rfl, rfl, rfl, rfl, rfl, rfl, rfl, rfl, rfl, fun l hl => ?_⟩
  rw [session_setSession] at hl ⊢
  split
  · next hc =>
    rw [if_pos hc] at hl
    rw [h hl]
    simp only [State.session, hc.1]
  · rfl

theorem calm_closeQuietly (lane : Nat) (s : State) : TillCalm s (closeQuietly lane s) := by
  unfold closeQuietly
  rw [settle_setBasket]
  exact (calm_setBasket _ _ _).trans (calm_setSession Session.settledIn_of_lost)

theorem calm_tryStaging (s : State) : TillCalm s (tryStaging s) := by
  rw [tryStaging_frame]
  exact ⟨rfl, rfl, rfl, rfl, rfl, rfl, rfl, rfl, rfl, fun _ _ => rfl⟩

theorem calm_finished (s : State) : TillCalm s (finished s) := by
  obtain ⟨hframe, -, -, -, hlost⟩ := finished_spec s
  generalize finished s = t at hframe hlost ⊢
  refine ⟨?_, ?_, ?_, ?_, ?_, ?_, ?_, ?_, ?_, hlost⟩
  all_goals rw [hframe]

theorem calm_finishCutover (s : State) : TillCalm s (finishCutover s) := by
  rw [finishCutover_eq]
  exact (calm_finished s).trans (calm_tryStaging _)

theorem calm_onCutover (f : Cutover → Cutover) (s : State) : TillCalm s (s.onCutover f) :=
  ⟨rfl, rfl, rfl, rfl, rfl, rfl, rfl, rfl, rfl, fun _ _ => rfl⟩

theorem calm_drainEmpty (s : State) : TillCalm s (drainEmpty s) := by
  unfold drainEmpty endDrain proceedDrain
  split
  · split
    · split
      · split
        · exact (calm_onCutover _ _).trans (calm_onCutover _ _)
        · exact (calm_onCutover _ _).trans (calm_finishCutover _)
      · exact calm_onCutover _ _
    · exact .refl s
  · exact .refl s

theorem calm_closeBasket (lane : Nat) (s : State) : TillCalm s (closeBasket lane s) :=
  (calm_closeQuietly lane s).trans (calm_drainEmpty _)

/-- The journal asked for an ABANDON record: what it writes, and the id it records (R56, R67). -/
theorem appendAbandon_frame (mem : MemFaults) (cause : AbandonCause) (lane : Nat) (s : State) :
    let t := (appendAbandon mem cause lane s).1
    t = { s with jnl := t.jnl, msp := t.msp, free := t.free } ∧ t.msp.replies = s.msp.replies ∧ t.msp.clock = s.msp.clock := by
  have happend (c : JournalContent) (u : State) : ∀ v n, journalAppend mem c u = (v, n) →
      v = { u with jnl := v.jnl, msp := v.msp } ∧ v.msp.replies = u.msp.replies ∧ v.msp.clock = u.msp.clock := by
    intro v n hv
    by_cases hfit : u.jnl.fits c = true
    · rw [journalAppend_accepted mem c hfit] at hv
      obtain ⟨j, m, hacc, hrep, hclk, -⟩ := acceptAppend_frame mem c u
      obtain ⟨rfl, -⟩ := Prod.mk.inj hv
      rw [hacc]
      exact ⟨rfl, hrep, hclk⟩
    · rw [journalAppend_refused mem c (by simpa using hfit)] at hv
      obtain ⟨rfl, -⟩ := Prod.mk.inj hv
      unfold refuseAppend
      dsimp only
      split <;> exact ⟨rfl, rfl, rfl⟩
  have hdraw : (basketTillId lane s).2 = { s with free := (basketTillId lane s).2.free } := by
    unfold basketTillId
    split <;> rfl
  intro t
  have ht : ∃ c n, journalAppend mem c (basketTillId lane s).2 = (t, n) := by
    unfold t appendAbandon
    dsimp only
    split
    · next hj => exact ⟨_, _, hj⟩
    · next hj => exact ⟨_, _, hj⟩
  obtain ⟨c, n, hj⟩ := ht
  obtain ⟨hframe, hrep, hclk⟩ := happend c _ t n hj
  rw [hdraw] at hframe hrep hclk
  exact ⟨by rw [hframe], hrep, hclk⟩

theorem calm_appendAbandon (mem : MemFaults) (cause : AbandonCause) (lane : Nat) (s : State) :
    TillCalm s (appendAbandon mem cause lane s).1 := by
  obtain ⟨hframe, hrep, hclk⟩ := appendAbandon_frame mem cause lane s
  generalize (appendAbandon mem cause lane s).1 = t at hframe hrep hclk ⊢
  refine ⟨?_, ?_, ?_, ?_, ?_, ?_, ?_, hclk, hrep, fun l hl => ?_⟩
  all_goals rw [hframe]
  rfl

theorem calm_expireWindow (mem : MemFaults) (lane : Nat) (s : State) : TillCalm s (expireWindow mem lane s) := by
  have hgone (u : State) : TillCalm u (u.setSession lane (u.session lane).gone) := calm_setSession fun h => absurd h nofun
  unfold expireWindow
  dsimp only
  refine .trans (t := _) ?_ (hgone _)
  split
  · have h := calm_appendAbandon mem .reconnectExpired lane s
    split
    · next heq => rw [heq] at h; exact h.trans (calm_closeBasket _ _)
    · next heq => rw [heq] at h; exact h.trans (calm_setBasket _ _ _)
  · exact .refl s

theorem calm_judgeWindow (mem : MemFaults) (lane : Nat) (s : State) : TillCalm s (judgeWindow mem lane s) := by
  unfold judgeWindow
  split
  · exact calm_expireWindow mem lane s
  · exact .refl s

/-- A lane judged is not LOST with its window run out. -/
theorem judgeWindow_over (mem : MemFaults) {lane : Nat} (hl : lane - 1 < 64) (s : State)
    (h : ((judgeWindow mem lane s).session lane).state = .lost) :
    s.elapsed < ((judgeWindow mem lane s).session lane).lostAt + s.tsu.window := by
  by_cases hover : (s.session lane).windowOver s.elapsed s.tsu.window = true
  · rw [judgeWindow, if_pos hover] at h
    unfold expireWindow at h
    dsimp only at h
    rw [setSession_session _ _ _ hl] at h
    exact absurd h nofun
  · rw [judgeWindow, if_neg hover] at h ⊢
    simp only [Session.windowOver, h, beq_self_eq_true, Bool.true_and, decide_eq_true_eq, Nat.not_le] at hover
    exact hover

theorem judgeWindows_spec (mem : MemFaults) (ls : List Nat) (hls : ∀ l ∈ ls, l - 1 < 64) (s : State) :
    TillCalm s (ls.foldl (fun s l => judgeWindow mem l s) s) ∧
    ∀ l ∈ ls, ((ls.foldl (fun s l => judgeWindow mem l s) s).session l).state = .lost →
      s.elapsed < ((ls.foldl (fun s l => judgeWindow mem l s) s).session l).lostAt + s.tsu.window := by
  induction ls generalizing s with
  | nil => exact ⟨.refl s, fun l hl => absurd hl List.not_mem_nil⟩
  | cons k ls ih =>
    have hk := calm_judgeWindow mem k s
    obtain ⟨hcalm, hrest⟩ := ih (fun l hl => hls l (List.mem_cons_of_mem _ hl)) (judgeWindow mem k s)
    rw [hk.elapsed, hk.window] at hrest
    rw [List.foldl_cons]
    refine ⟨hk.trans hcalm, fun l hl hlost => ?_⟩
    rcases List.mem_cons.mp hl with rfl | hmem
    · have hsame := hcalm.lost l hlost
      rw [hsame] at hlost ⊢
      exact judgeWindow_over mem (hls l List.mem_cons_self) s hlost
    · exact hrest l hmem hlost

/-! ### A basket abandoned (R56) -/

theorem closeBasket_free (lane : Nat) (h : s.tsu.hold = false) : closeBasket lane s =
    (s.setBasket lane (s.basket lane).closed).setSession lane ((s.session lane).settledIn false false) := by
  have hq : closeQuietly lane s =
      (s.setBasket lane (s.basket lane).closed).setSession lane ((s.session lane).settledIn false false) := by
    unfold closeQuietly
    rw [settle_setBasket, h]
    rfl
  unfold closeBasket
  rw [hq]
  exact drainEmpty_free h

theorem pageCount_abandon (h : BasketHeader) (c : AbandonCause) (ls : List Line) :
    (JournalContent.abandon h c ls).pageCount = 1 + (ls.length + 7) / 8 := by
  simp [JournalContent.pageCount, JournalContent.entries, ceilDiv]

/-- An abandon that the journal takes: one ABANDON record with the cause, the id and the lines. -/
theorem appendAbandon_accepted (mem : MemFaults) (cause : AbandonCause) (lane : Nat)
    (hfit : 1 + ((s.basket lane).lines.length + 7) / 8 ≤ s.jnl.space) :
    ∃ u id, appendAbandon mem cause lane s = (u, true) ∧ u = { s with jnl := u.jnl, msp := u.msp, free := u.free } ∧
      u.msp.replies = s.msp.replies ∧ (∀ x, (s.session lane).tillId = some x → id = x) ∧
      u.jnl.records.getLast? = some ⟨s.jnl.append.seq, s.jnl.append.pos, 1 + ((s.basket lane).lines.length + 7) / 8, s.now,
        s.msp.clock.isSet, false, [],
        .abandon ⟨lane, some id, (s.basket lane).sequence, (s.basket lane).epoch, (s.basket lane).openTime, s.now, (s.basket lane).mixed⟩
          cause (s.basket lane).lines⟩ := by
  have hdraw : (basketTillId lane s).2 = { s with free := (basketTillId lane s).2.free } := by
    unfold basketTillId
    split <;> rfl
  have hid : ∀ x, (s.session lane).tillId = some x → (basketTillId lane s).1 = x := by
    intro x hx
    simp [basketTillId, hx]
  let c : JournalContent := .abandon ⟨lane, some (basketTillId lane s).1, (s.basket lane).sequence, (s.basket lane).epoch,
    (s.basket lane).openTime, s.now, (s.basket lane).mixed⟩ cause (s.basket lane).lines
  have hpages : c.pageCount = 1 + ((s.basket lane).lines.length + 7) / 8 := pageCount_abandon ..
  let d : State := { s with free := (basketTillId lane s).2.free }
  obtain ⟨j, m, hacc, hrep, -, -, hlast, -⟩ := acceptAppend_frame mem c d
  have hcall : journalAppend mem c d = (acceptAppend mem c d, some s.jnl.append.seq) :=
    journalAppend_accepted mem c (by simpa [Journal.fits, hpages] using hfit)
  refine ⟨acceptAppend mem c d, (basketTillId lane s).1, ?_, ?_, ?_, hid, ?_⟩
  · unfold appendAbandon
    dsimp only
    rw [hdraw]
    have hsame : JournalContent.abandon (basketHeader lane (some (basketTillId lane s).1) d) cause (d.basket lane).lines = c := rfl
    rw [hsame, hcall]
  · rw [hacc]
  · rw [hacc]
    exact hrep
  · rw [hacc, ← hpages]
    exact hlast

/-- A lane's basket closed and its session written, on a part that an append has reached: what is left of the part, and of every other lane. -/
theorem closed_lane {u : State} {lane : Nat} (hlane : laneOk lane = true) (hu : u = { s with jnl := u.jnl, msp := u.msp, free := u.free })
    (x : Session) :
    let t := (u.setBasket lane (u.basket lane).closed).setSession lane x
    t = { s with
      tsu := { s.tsu with sessions := t.tsu.sessions, baskets := t.tsu.baskets }, jnl := u.jnl, msp := u.msp, free := u.free } ∧
    t.session lane = x ∧
    t.basket lane = ⟨false, (s.basket lane).sequence, (s.basket lane).epoch, (s.basket lane).openTime, false, false, [], none, none⟩ ∧
    ∀ l, laneOk l = true → l ≠ lane → t.basket l = s.basket l ∧ t.session l = s.session l := by
  have hbasket (l : Nat) : u.basket l = s.basket l := by rw [hu]; rfl
  have hsession (l : Nat) : u.session l = s.session l := by rw [hu]; rfl
  refine ⟨?_, session_setSession_same x hlane, ?_, fun l hl hne => ⟨?_, ?_⟩⟩
  · rw [hu]
    rfl
  · refine (setBasket_basket u lane _ (lane_lt hlane)).trans ?_
    rw [hbasket]
    rfl
  · exact (basket_setBasket_ne _ hlane hl hne).trans (hbasket l)
  · exact (session_setSession_ne x hlane hl hne).trans (hsession l)

/-- Taking a session into ABSENT once its basket is closed writes the session alone (R47). -/
theorem setSession_setSession (lane : Nat) (x y : Session) : (s.setSession lane x).setSession lane y = s.setSession lane y := by
  simp only [State.setSession, tset_tset]

end Sys2Proof.Machine

namespace Sys2Proof.Proofs
open Sys2Proof.Machine

/-- Settles O21: the entry written, and the present till judged against it. -/
theorem rosterSetLosesATillItNoLongerAdmits : Obligations.RosterSetLosesATillItNoLongerAdmits := by
  intro tag a p s htake hlane hid hband hpol
  let e : RosterEntry := ⟨a.tillId, a.allowed, p, a.band⟩
  have hrun : rosterSet a s = (setRoster a.lane e s, .okay) := by simp [rosterSet, hpol, hlane, hid, hband, e]
  have hadmits : e.admitsJoined (s.session a.lane) = true ↔ a.allowed = true ∧ (s.session a.lane).tillId = some a.tillId := by
    unfold RosterEntry.admitsJoined
    split
    · next t ht =>
      rw [ht, Option.some_inj, RosterEntry.admits, Bool.and_eq_true, beq_iff_eq]
      exact and_congr_right fun _ => ⟨Eq.symm, Eq.symm⟩
    · next ht => simp [ht]
  let u : State := { s with tsu := { s.tsu with roster := tset s.tsu.roster (a.lane - 1) e } }
  have hroster : u.roster a.lane = e := tget_tset_same s.tsu.roster (a.lane - 1) e RosterEntry.cold (lane_lt hlane)
  have hroster_ne (l : Nat) (hl : laneOk l = true) (hne : l ≠ a.lane) : u.roster l = s.roster l :=
    tget_tset_ne s.tsu.roster (a.lane - 1) (l - 1) e RosterEntry.cold (lane_ne hlane hl hne)
  by_cases hlose : (s.session a.lane).state.isPresent = true ∧ ¬(a.allowed = true ∧ (s.session a.lane).tillId = some a.tillId)
  · have hset : setRoster a.lane e s = enterLost a.lane .roster u := by
      unfold setRoster
      exact if_pos (by
        have h2 : e.admitsJoined (s.session a.lane) = false := Bool.eq_false_iff.mpr (mt hadmits.mp hlose.2)
        change ((s.session a.lane).state.isPresent && !e.admitsJoined (s.session a.lane)) = true
        rw [hlose.1, h2]
        rfl)
    rw [hset] at hrun
    have hsess := session_setSession_same (s := u) { s.session a.lane with
      state := .lost, lostSince := some s.now, lostReason := some .roster, lostAt := s.elapsed, nextPoll := none, polled := false
      heard := false } hlane
    refine ⟨_, next_taken (f := withBody (some a) rosterSet) rfl htake hrun, rfl, hroster, fun l hl hne => ⟨hroster_ne l hl hne, ?_⟩,
      fun _ => ⟨?_, ?_, ?_, rfl⟩, fun h => absurd hlose h, rfl⟩
    · exact session_setSession_ne (s := u) _ hlane hl hne
    · exact congrArg Session.state hsess
    · exact congrArg Session.lostReason hsess
    · exact congrArg Session.lostSince hsess
  · have hset : setRoster a.lane e s = u := by
      unfold setRoster
      refine if_neg fun h => hlose ?_
      rw [Bool.and_eq_true, Bool.not_eq_true'] at h
      exact ⟨h.1, mt hadmits.mpr (by rw [show e.admitsJoined (s.session a.lane) = false from h.2]; exact nofun)⟩
    rw [hset] at hrun
    exact ⟨_, next_taken (f := withBody (some a) rosterSet) rfl htake hrun, rfl, hroster, fun l hl hne => ⟨hroster_ne l hl hne, rfl⟩,
      fun h => absurd h hlose, fun _ => ⟨rfl, rfl⟩, rfl⟩

/-- Settles O22, by the lane and its flag. -/
theorem lockoutAndReleaseSettleTheSession : Obligations.LockoutAndReleaseSettleTheSession := by
  intro tag lane s htake
  have hset (b : Bool) : setLockout b lane s = s.setSession lane { s.session lane with
      lockout := b
      state := if (s.session lane).state.isPresent then settled b s.tsu.hold (s.basket lane).isOpen else (s.session lane).state } := by
    unfold setLockout
    rw [settle_setSession]
    unfold Session.settledIn
    dsimp only
    split <;> rfl
  refine ⟨fun hbad => ⟨?_, ?_⟩, fun hlane hlock => ⟨?_, ?_⟩, fun hlane hlock => ⟨?_, ?_⟩⟩
  · exact next_taken (f := withBody (some lane) fun l => withLane l tillLockout) rfl htake (withLane_bad _ hbad)
  · exact next_taken (f := withBody (some lane) fun l => withLane l tillRelease) rfl htake (withLane_bad _ hbad)
  · exact next_taken (f := withBody (some lane) fun l => withLane l tillLockout) rfl htake
      ((withLane_ok _ hlane).trans (by simp [tillLockout, hlock]; rfl))
  · refine next_taken (f := withBody (some lane) fun l => withLane l tillRelease) rfl htake ((withLane_ok _ hlane).trans ?_)
    rw [tillRelease, if_pos hlock, hset]
    rfl
  · exact next_taken (f := withBody (some lane) fun l => withLane l tillRelease) rfl htake
      ((withLane_ok _ hlane).trans (by simp [tillRelease, hlock, Reply.refuse]))
  · refine next_taken (f := withBody (some lane) fun l => withLane l tillLockout) rfl htake ((withLane_ok _ hlane).trans ?_)
    rw [tillLockout, if_neg (by simp [hlock]), hset]
    rfl

/-- Settles O23: every lane's window judged under the new one. -/
theorem tillParamsExpiresShortenedWindows : Obligations.TillParamsExpiresShortenedWindows := by
  intro tag a mem s htake
  have hrun : ∃ u, TillCalm { s with tsu := { s.tsu with pollPeriod := clamp 1 10 a.poll, window := clamp 30 600 a.window } } u ∧
      (∀ l ∈ lanes, (u.session l).state = .lost → s.elapsed < (u.session l).lostAt + clamp 30 600 a.window) ∧
      tillParams mem a s = (u, .okClamped (decide (clamp 1 10 a.poll ≠ a.poll) || decide (clamp 30 600 a.window ≠ a.window))) := by
    obtain ⟨hcalm, hover⟩ := judgeWindows_spec mem lanes (fun l hl => by have := mem_lanes_iff.mp hl; omega)
      { s with tsu := { s.tsu with pollPeriod := clamp 1 10 a.poll, window := clamp 30 600 a.window } }
    exact ⟨_, hcalm, hover, rfl⟩
  obtain ⟨u, hcalm, hover, hrun⟩ := hrun
  refine ⟨_, next_taken (f := withBody (some a) (tillParams mem)) rfl htake hrun, hcalm.pollPeriod, hcalm.window, hcalm.roster,
    fun lane hlane hlost => ?_, ?_, hcalm.zfw, hcalm.gat, hcalm.uls, hcalm.power⟩
  · refine hover lane (mem_lanes_iff.mpr ?_) hlost
    simpa [laneOk] using hlane
  · rw [addReply_replies, hcalm.replies]
    simp only [Reply.okClamped, ← Bool.decide_or, clamp_ne_iff, or_assoc, decide_eq_true_eq]

/-- Settles O24: one accepted abandon and one basket closed, however it came about. -/
theorem abandonsJournalAndCloseTheBasket : Obligations.AbandonsJournalAndCloseTheBasket := by
  intro lane mem s hlane hopen hhold hfit c cause hcause
  obtain ⟨u, id, hcall, hu, hrep, hid, hlast⟩ := appendAbandon_accepted mem cause lane hfit
  have hclose : closeBasket lane u =
      (u.setBasket lane (u.basket lane).closed).setSession lane ((u.session lane).settledIn false false) :=
    closeBasket_free lane (by rw [hu]; exact hhold)
  rcases hcause with ⟨tag, rfl, rfl, htake⟩ | ⟨rfl, hrun, hdue, hretry, hkept⟩ | ⟨rfl, rfl, hrun, hlost, hover⟩
  · have hclear : tillClear mem lane s = (closeBasket lane u, .okay) := by simp [tillClear, hopen, hcall]
    rw [hclose] at hclear
    obtain ⟨hframe, -, hb, hothers⟩ := closed_lane hlane hu ((u.session lane).settledIn false false)
    refine ⟨_, id, next_taken (f := withBody (some lane) fun l => withLane l (tillClear mem)) rfl htake ((withLane_ok _ hlane).trans hclear),
      ?_, hid, hb, hothers, hlast, fun h => absurd h nofun⟩
    rw [hframe]
    rfl
  · have hstep : (if laneOk lane && retryDue lane s then retryAbandon mem lane s else s) = closeBasket lane u := by
      simp [hlane, retryDue, hopen, hdue, hretry, retryAbandon, hkept, hcall]
    rw [hclose] at hstep
    obtain ⟨hframe, -, hb, hothers⟩ := closed_lane hlane hu ((u.session lane).settledIn false false)
    refine ⟨_, id, (next_running (f := fun s => if laneOk lane && retryDue lane s then retryAbandon mem lane s else s) rfl hrun).trans
      (congrArg _ hstep), ?_, hid, hb, hothers, hlast, fun h => absurd h nofun⟩
    rw [hframe]
  · have hwin : (s.session lane).windowOver s.elapsed s.tsu.window = true := by simp [Session.windowOver, hlost, hover]
    have hstep : (if laneOk lane then judgeWindow mem lane s else s) =
        (closeBasket lane u).setSession lane ((closeBasket lane u).session lane).gone := by
      simp [hlane, judgeWindow, hwin, expireWindow, hopen, hcall]
    rw [hclose, setSession_setSession] at hstep
    obtain ⟨hframe, hs, hb, hothers⟩ := closed_lane hlane hu
      (((u.setBasket lane (u.basket lane).closed).setSession lane ((u.session lane).settledIn false false)).session lane).gone
    refine ⟨_, id, (next_running (f := fun s => if laneOk lane then judgeWindow mem lane s else s) rfl hrun).trans
      (congrArg _ hstep), ?_, hid, hb, hothers, hlast, fun _ => ⟨?_, ?_⟩⟩
    · rw [hframe]
    · rw [hs]
      rfl
    · rw [hs]
      rfl

/-- Settles O25: the third miss, or a poll. -/
theorem pollTimePollsOrLosesTheTill : Obligations.PollTimePollsOrLosesTheTill := by
  intro lane d st s hrun hlane hpres hnext hdue hst missed
  have hdue' : s.due (s.session lane).nextPoll = true := by simp [State.due, hnext, hdue]
  have hmissed : (s.session lane).missedAt = missed := by
    unfold Session.missedAt missed
    by_cases h1 : (s.session lane).polled = true
    · by_cases h2 : (s.session lane).heard = true
      · simp [h1, h2]
      · simp [h1, h2]
    · simp [h1]
  have hstep : pollIfDue lane s = takePoll lane s := by simp [pollIfDue, hlane, hpres, hdue']
  have hexec := (next_running (c := .pollTime lane) (f := pollIfDue lane) rfl hrun).trans (congrArg _ hstep)
  by_cases h3 : 3 ≤ missed
  · have htake : takePoll lane s = enterLost lane .polls (s.setSession lane { s.session lane with missed := missed }) := by
      simp [takePoll, hmissed, h3]
    rw [htake] at hexec
    have hlost : enterLost lane .polls (s.setSession lane { s.session lane with missed := missed }) =
        (s.setSession lane { s.session lane with
          missed := missed, state := .lost, lostSince := some s.now, lostReason := some .polls, lostAt := s.elapsed, nextPoll := none
          polled := false, heard := false }).report (.tillLost lane (s.session lane).tillId .polls (s.basket lane).isOpen) := by
      simp only [enterLost, session_setSession_same _ hlane, setSession_setSession]
      rfl
    rw [hlost] at hexec
    have hsess := session_setSession_same (s := s) { s.session lane with
      missed := missed, state := .lost, lostSince := some s.now, lostReason := some .polls, lostAt := s.elapsed, nextPoll := none
      polled := false, heard := false } hlane
    exact ⟨_, hexec, rfl, fun l hl hne => session_setSession_ne _ hlane hl hne, congrArg Session.missed hsess,
      fun _ => ⟨congrArg Session.state hsess, congrArg Session.lostReason hsess, rfl, rfl⟩, fun h => absurd h (by omega)⟩
  · let y : Session := { s.session lane with
      missed := missed, polled := true, heard := false, seenOwed := false, nextPoll := some (s.elapsed + s.tsu.pollPeriod) }
    have htake : takePoll lane s = sendLane st (pollMessages lane (s.session lane)) (s.setSession lane y) := by
      simp [takePoll, hmissed, h3, hst, y]
    rw [htake] at hexec
    have hsess := session_setSession_same (s := s) y hlane
    exact ⟨_, hexec, rfl, fun l hl hne => session_setSession_ne _ hlane hl hne, congrArg Session.missed hsess,
      fun h => absurd h h3, fun _ => ⟨(congrArg Session.state hsess).trans rfl, (congrArg Session.nextPoll hsess).trans rfl,
        (congrArg Session.seenOwed hsess).trans rfl, rfl, rfl⟩⟩

end Sys2Proof.Proofs
end

section
/-! The lane protocol: the frames that a running till service takes, and what each answers (R42 to R55). -/

namespace Sys2Proof.Machine

variable {s : State}

/-! ### Frames (R42, R43) -/

theorem next_laneFrame {c : Instr} {lane : Nat} {f : State → State} (hc : exec c s = .next (laneFrame lane f s)) (hrun : s.power = .running)
    (hserve : s.tsu.serving = true) (hlane : laneOk lane = true) : exec c s = .next (f s) := by
  rw [hc, laneFrame_taken lane f hrun hserve hlane]

theorem takesNew_iff {src : HwAddr} {lane msg : Nat} : s.takesNew src lane msg = true ↔
    s.power = .running ∧ s.tsu.serving = true ∧ laneOk lane = true ∧ (s.session lane).state.isPresent = true ∧
      (s.session lane).station = some src ∧ messageOk msg = true ∧ (s.session lane).repeated msg = none := by
  simp only [State.takesNew, Bool.and_eq_true, beq_iff_eq, Option.isNone_iff_eq_none, and_assoc]

/-- A new message's frame: its effect, then the reply kept with the lane's session and sent (R43). -/
theorem next_new {c : Instr} {src : HwAddr} {lane msg : Nat} {f : State → State × LaneMessage} {u : State} {r : LaneMessage}
    (hc : exec c s = .next (laneFrame lane (numbered src lane msg true f) s)) (hnew : s.takesNew src lane msg = true) (hf : f s = (u, r))
    (hout : u.tsu.outbox = s.tsu.outbox) :
    ∃ t, exec c s = .next t ∧ t = { u with tsu := { u.tsu with sessions := t.tsu.sessions, outbox := t.tsu.outbox } } ∧
      t.tsu.baskets = u.tsu.baskets ∧ (∀ l, laneOk l = true → l ≠ lane → t.session l = u.session l) ∧
      (t.session lane).state = (u.session lane).state ∧ s.keptAndSent src lane msg r t := by
  obtain ⟨hrun, hserve, hlane, hpres, hst, hmsg, hrep⟩ := takesNew_iff.mp hnew
  have hexec : exec c s = .next (sendLane src [r] (keepReply lane msg r u)) := by
    rw [next_laneFrame hc hrun hserve hlane, numbered_new src lane msg f hpres hst hrep hmsg, takeNew, hf]
  have hsess := session_setSession_same (s := u) { u.session lane with last := some ⟨msg, r⟩ } hlane
  exact ⟨_, hexec, rfl, rfl, fun l hl hne => session_setSession_ne (s := u) _ hlane hl hne, (congrArg Session.state hsess).trans rfl,
    (congrArg Session.last hsess).trans rfl, congrArg (· ++ [(⟨src, [r]⟩ : LaneFrame)]) hout⟩

/-! ### Baskets -/

theorem onBasket_open {lane : Nat} (msg : Nat) (f : Basket → State → State × LaneMessage) (hlock : (s.session lane).state ≠ .lockedOut)
    (hopen : (s.basket lane).isOpen = true) : onBasket lane msg f s = f (s.basket lane) s := by
  simp [onBasket, hlock, hopen]

/-- A line that the PCU priced, on a basket with room. -/
theorem priceLine_ok {lane : Nat} (msg code quantity band : Nat) (a : LineAnswer) (hroom : (s.basket lane).lines.length < 200) :
    priceLine lane msg code quantity band (.ok a) (s.basket lane) s =
      (s.setBasket lane { s.basket lane with
        lines := (s.basket lane).lines ++ [lineOf ((s.basket lane).lines.length + 1) code quantity band a] },
       .answer lane msg ((s.basket lane).lines.length + 1) a.amount (some a.used) a.labelLag false
         (runningTotal (s.basket lane).lines + a.amount) (s.basket lane).sequence) := by
  have hsum := runningTotal_append (s.basket lane).lines (lineOf ((s.basket lane).lines.length + 1) code quantity band a) rfl
  unfold priceLine
  rw [if_neg (Nat.not_le.mpr hroom)]
  simp only [makeLine, hsum]
  rfl

/-- A line of an item that may be sold is the PCU's answer (R51). -/
theorem askLine_sold {mem : MemFaults} {lane code : Nat} {r : ItemRecord} {p : PriceRecord} {a : LineAnswer} (msg quantity : Nat)
    (keyed : Option Nat) (hcode : codeOk code = true) (hitem : s.item code = some r) (hclean : code ∉ mem.items) (hcur : r.current = some p)
    (hblock : r.blocked = false) (hdam : r.damaged = false)
    (ha : computeLine p r.version r.previous quantity (runningTotal (s.basket lane).lines) = .ok a) :
    askLine mem lane msg code quantity keyed (s.basket lane) s = priceLine lane msg code quantity r.band (.ok a) (s.basket lane) s := by
  have hread : askRead mem code s = s := by simp [askRead, checkItem_clean mem s hclean]
  have hfound : askItem code s = some r := by simp [askItem, hcode, hitem]
  unfold askLine
  rw [hread, hfound]
  simp [askKnown, hcur, hblock, hdam, ha, item_code hitem]

theorem pageCount_sale (h : SaleHeader) (ls : List Line) (gs : List GroupDiscount) :
    (JournalContent.sale h ls gs).pageCount = 1 + (ls.length + gs.length + 7) / 8 := by
  simp [JournalContent.pageCount, JournalContent.entries, ceilDiv]

theorem pageCount_void (h : BasketHeader) (ls : List Line) : (JournalContent.void h ls).pageCount = 1 + (ls.length + 7) / 8 := by
  simp [JournalContent.pageCount, JournalContent.entries, ceilDiv]

/-- A record taken by the journal, and the lane's basket closed after it with no hold in force (R54, R55). -/
theorem appendAndClose {mem : MemFaults} {c : JournalContent} {lane n : Nat} (hlane : laneOk lane = true) (hhold : s.tsu.hold = false)
    (hpages : c.pageCount = n) (hfit : n ≤ s.jnl.space) :
    ∃ v, journalAppend mem c s = (v, some s.jnl.append.seq) ∧
      (closeBasket lane v) = { s with
        tsu := { s.tsu with sessions := (closeBasket lane v).tsu.sessions, baskets := (closeBasket lane v).tsu.baskets },
        jnl := v.jnl, msp := v.msp } ∧
      (closeBasket lane v).basket lane =
        ⟨false, (s.basket lane).sequence, (s.basket lane).epoch, (s.basket lane).openTime, false, false, [], none, none⟩ ∧
      (∀ l, laneOk l = true → l ≠ lane → (closeBasket lane v).basket l = s.basket l ∧ (closeBasket lane v).session l = s.session l) ∧
      v.jnl.records.getLast? = some ⟨s.jnl.append.seq, s.jnl.append.pos, n, s.now, s.msp.clock.isSet, false, [], c⟩ := by
  obtain ⟨j, m, hacc, -, -, -, hlast, -⟩ := acceptAppend_frame mem c s
  have hcall : journalAppend mem c s = (acceptAppend mem c s, some s.jnl.append.seq) :=
    journalAppend_accepted mem c (by simpa [Journal.fits, hpages] using hfit)
  rw [hpages] at hlast
  have hv : acceptAppend mem c s = { s with jnl := (acceptAppend mem c s).jnl, msp := (acceptAppend mem c s).msp, free := s.free } := by
    rw [hacc]
  have hclose := closeBasket_free (s := acceptAppend mem c s) lane (by rw [hacc]; exact hhold)
  obtain ⟨hframe, -, hbasket, hothers⟩ := closed_lane hlane (s := s) (u := acceptAppend mem c s)
    (by rw [hacc]) (((acceptAppend mem c s).session lane).settledIn false false)
  refine ⟨acceptAppend mem c s, hcall, ?_, ?_, ?_, by rw [hacc]; exact hlast⟩
  · rw [hclose, hframe, hacc]
  · rw [hclose, hbasket]
  · rw [hclose]
    exact hothers

end Sys2Proof.Machine

namespace Sys2Proof.Proofs
open Sys2Proof.Machine

/-- Settles O26, by whether the lane is present and whom its roster entry admits. -/
theorem joinAdmitsOrRefuses : Obligations.JoinAdmitsOrRefuses := by
  intro src lane id s hrun hserve hlane
  have hexec : exec (.laneJoin src lane id) s = .next (joinLane src lane id s) :=
    next_laneFrame (f := joinLane src lane id) rfl hrun hserve hlane
  refine ⟨fun ⟨hpres, hst⟩ => ?_, fun habs hroster => ?_, fun habs hallow hid => ?_⟩
  · rw [hexec]
    simp [joinLane, hpres, hst, refuseJoin]
  · rw [hexec]
    have hadmit : (s.roster lane).admits id = false := by
      simpa [RosterEntry.admits] using hroster
    simp [joinLane, habs, hadmit, refuseJoin]
  · have hjoin : joinLane src lane id s = admitTill src lane id s := by
      simp [joinLane, habs, RosterEntry.admits, hallow, hid]
    rw [hjoin] at hexec
    let x := (s.session lane).joined src id (s.elapsed + s.tsu.pollPeriod)
    let u := (s.setBasket lane (s.basket lane).restored).setSession lane (x.settledIn s.tsu.hold (s.basket lane).isOpen)
    have hsess : u.session lane = x.settledIn s.tsu.hold (s.basket lane).isOpen :=
      session_setSession_same (s := s.setBasket lane (s.basket lane).restored) _ hlane
    have hbasket : u.basket lane = (s.basket lane).restored := setBasket_basket s lane _ (lane_lt hlane)
    have hadmit : admitTill src lane id s =
        sendLane src [.welcome lane (u.session lane).state s.tsu.pollPeriod (u.basket lane).summary] u :=
      congrArg (fun u : State => sendLane src [.welcome lane (u.session lane).state u.tsu.pollPeriod (u.basket lane).summary] u)
        (settle_writes s lane x (s.basket lane).restored)
    rw [hadmit, hsess, hbasket] at hexec
    refine ⟨_, hexec, rfl, hsess, hbasket, fun l hl hne => ⟨?_, ?_⟩, rfl⟩
    · exact session_setSession_ne (s := s.setBasket lane (s.basket lane).restored) _ hlane hl hne
    · exact basket_setBasket_ne (s := s) _ hlane hl hne

/-- Settles O27, by the station the STATUS comes from. -/
theorem statusIsRecordedOrDiscarded : Obligations.StatusIsRecordedOrDiscarded := by
  intro src lane i s hrun hserve hlane
  have hexec : exec (.laneStatus src lane i) s = .next (statusLane src lane i s) :=
    next_laneFrame (f := statusLane src lane i) rfl hrun hserve hlane
  rw [hexec]
  refine ⟨fun habs => ?_, fun hpres hst => ?_, fun hpres hst => ?_, ?_⟩
  · simp [statusLane, habs]
  · simp [statusLane, hpres, hst, countForeign, max16]
  · simp [statusLane, hpres, hst, recordStatus, serviceReport]
  · refine (next_running (f := fun s => if s.tsu.serving then countMalformed s else s) rfl hrun).trans ?_
    rw [if_pos hserve]
    rfl

/-- Settles O28: the basket is opened, and the session settles. -/
theorem openStartsABasket : Obligations.OpenStartsABasket := by
  intro src lane msg s hnew hready n
  obtain ⟨-, -, hlane, hpres, -⟩ := takesNew_iff.mp hnew
  let b := (s.basket lane).opened s.itb.epoch s.now
  let u := (s.setBasket lane b).setSession lane ((s.session lane).settledIn s.tsu.hold true)
  have hsess : u.session lane = (s.session lane).settledIn s.tsu.hold true :=
    session_setSession_same (s := s.setBasket lane b) _ hlane
  have hf : openLane lane msg s = (u, lineZero lane msg b.sequence) := by
    simp only [openLane, hready]
    rw [settle_setBasket]
    rfl
  obtain ⟨t, hexec, hframe, hbaskets, hothers, hstate, hkept⟩ := next_new (c := .laneOpen src lane msg) (f := openLane lane msg) rfl hnew hf rfl
  have hbasket (l : Nat) : t.basket l = u.basket l := by simp only [State.basket, hbaskets]
  refine ⟨t, hexec, ?_, ?_, ?_, fun l hl hne => ⟨?_, ?_⟩, hkept⟩
  · rw [hframe]
    rfl
  · exact (hbasket lane).trans (setBasket_basket s lane b (lane_lt hlane))
  · rw [hstate, hsess, Session.settledIn, if_pos hpres]
  · exact (hothers l hl hne).trans (session_setSession_ne (s := s.setBasket lane b) _ hlane hl hne)
  · exact (hbasket l).trans (basket_setBasket_ne (s := s) b hlane hl hne)

/-- Settles O29: the answer of the PCU becomes a line. -/
theorem askAppendsAPricedLine : Obligations.AskAppendsAPricedLine := by
  intro src lane msg code quantity keyed mem r p a s hnew hlock hopen hcode hitem hclean hcur hblock hdam hroom ha n line
  obtain ⟨-, -, hlane, -⟩ := takesNew_iff.mp hnew
  have hf := (onBasket_open msg (askLine mem lane msg code quantity keyed) hlock hopen).trans
    ((askLine_sold msg quantity keyed hcode hitem hclean hcur hblock hdam ha).trans (priceLine_ok msg code quantity r.band a hroom))
  obtain ⟨t, hexec, hframe, hbaskets, hothers, -, hkept⟩ :=
    next_new (c := .laneAsk src lane msg code quantity keyed mem) (f := onBasket lane msg (askLine mem lane msg code quantity keyed)) rfl hnew hf rfl
  refine ⟨t, hexec, ?_, ?_, fun l hl hne => ⟨hothers l hl hne, ?_⟩, hkept⟩
  · rw [hframe]
    rfl
  · simp only [State.basket, hbaskets]
    exact setBasket_basket s lane _ (lane_lt hlane)
  · simp only [State.basket, hbaskets]
    exact basket_setBasket_ne (s := s) _ hlane hl hne

/-- Settles O30: the line is marked, and the total can only fall. -/
theorem voidMarksOneLine : Obligations.VoidMarksOneLine := by
  intro src lane msg n l s hnew hlock hopen hfind
  obtain ⟨-, -, hlane, -⟩ := takesNew_iff.mp hnew
  have hf := (onBasket_open msg (voidLine lane msg n) hlock hopen).trans
    (show voidLine lane msg n (s.basket lane) s = (s.setBasket lane { s.basket lane with lines := voidAt n (s.basket lane).lines },
      .answer lane msg n l.amount (some l.used) l.labelLag true (runningTotal (voidAt n (s.basket lane).lines)) (s.basket lane).sequence)
      by simp only [voidLine, hfind])
  obtain ⟨t, hexec, hframe, hbaskets, hothers, -, hkept⟩ :=
    next_new (c := .laneVoid src lane msg n) (f := onBasket lane msg (voidLine lane msg n)) rfl hnew hf rfl
  have hbasket : t.basket lane = { s.basket lane with lines := voidAt n (s.basket lane).lines } := by
    simp only [State.basket, hbaskets]
    exact setBasket_basket s lane _ (lane_lt hlane)
  refine ⟨t, hexec, ?_, hbasket, fun l hl hne => ⟨hothers l hl hne, ?_⟩, ?_, ?_⟩
  · rw [hframe]
    rfl
  · simp only [State.basket, hbaskets]
    exact basket_setBasket_ne (s := s) _ hlane hl hne
  · rw [hbasket]
    exact runningTotal_voidAt_le n _
  · rw [hbasket]
    exact hkept

/-- Settles O31: the record is taken, and the basket closed after it. -/
theorem closeAndCancelJournalAndCloseTheBasket : Obligations.CloseAndCancelJournalAndCloseTheBasket := by
  intro src lane msg mem s hnew hlock hopen hhold b closed sold
  obtain ⟨-, -, hlane, -⟩ := takesNew_iff.mp hnew
  refine ⟨fun k tender htender hfit => ?_, fun hfit => ?_⟩
  · obtain ⟨v, hcall, hclose, hb, hothers, hlast⟩ := appendAndClose (mem := mem) (c := saleRecord lane tender s) hlane hhold
      (pageCount_sale ..) hfit
    have hf := (onBasket_open msg (closeLane mem lane msg tender) hlock hopen).trans
      (show closeLane mem lane msg tender (s.basket lane) s = (closeBasket lane v,
        .total lane msg (basketTotal b.lines) (bandTaxes s.itb.rates b.lines) s.jnl.append.seq b.sequence)
        by simp only [closeLane, hcall, b])
    obtain ⟨t, hexec, hframe, hbaskets, hsessions, -, hkept⟩ := next_new (c := .laneClose src lane msg k mem)
      (f := onBasket lane msg (closeLane mem lane msg tender)) (by simp only [exec, execLaneClose, closeFrame, htender]; rfl) hnew hf
      (by rw [hclose])
    have hbasket (l : Nat) : t.basket l = (closeBasket lane v).basket l := by simp only [State.basket, hbaskets]
    refine ⟨t, hexec, ?_, (hbasket lane).trans hb, fun l hl hne => ⟨(hsessions l hl hne).trans (hothers l hl hne).2,
      (hbasket l).trans (hothers l hl hne).1⟩, ?_, hkept⟩
    · rw [hframe, hclose]
    · rw [hframe, hclose]
      exact hlast
  · obtain ⟨v, hcall, hclose, hb, hothers, hlast⟩ := appendAndClose (mem := mem)
      (c := .void (basketHeader lane (s.session lane).tillId s) (s.basket lane).lines) hlane hhold (pageCount_void ..) hfit
    have hf := (onBasket_open msg (cancelLane mem lane msg) hlock hopen).trans
      (show cancelLane mem lane msg (s.basket lane) s = (closeBasket lane v, lineZero lane msg b.sequence)
        by simp only [cancelLane, hcall, b])
    obtain ⟨t, hexec, hframe, hbaskets, hsessions, -, hkept⟩ := next_new (c := .laneCancel src lane msg mem)
      (f := onBasket lane msg (cancelLane mem lane msg)) rfl hnew hf (by rw [hclose])
    have hbasket (l : Nat) : t.basket l = (closeBasket lane v).basket l := by simp only [State.basket, hbaskets]
    refine ⟨t, hexec, ?_, (hbasket lane).trans hb, fun l hl hne => ⟨(hsessions l hl hne).trans (hothers l hl hne).2,
      (hbasket l).trans (hothers l hl hne).1⟩, ?_, hkept⟩
    · rw [hframe, hclose]
    · rw [hframe, hclose]
      exact hlast

/-- Settles O32: the repeat is met before anything of the message itself. -/
theorem repeatsGetTheKeptReply : Obligations.RepeatsGetTheKeptReply := by
  intro src lane msg r s hrun hserve hlane hpres hst hlast c hc
  have hrep : (s.session lane).repeated msg = some r := by simp [Session.repeated, hlast]
  have hnumbered : ∀ ok f, exec c s = .next (laneFrame lane (numbered src lane msg ok f) s) → exec c s = .next (sendLane src [r] s) :=
    fun ok f h => (next_laneFrame h hrun hserve hlane).trans (congrArg _ (numbered_repeat src lane msg ok f r hpres hst hrep))
  rcases hc with rfl | ⟨code, q, k, mem, rfl⟩ | ⟨n, rfl⟩ | ⟨k, mem, rfl⟩ | ⟨mem, rfl⟩
  · exact hnumbered true (openLane lane msg) rfl
  · exact hnumbered true (onBasket lane msg (askLine mem lane msg code q k)) rfl
  · exact hnumbered true (onBasket lane msg (voidLine lane msg n)) rfl
  · exact hnumbered _ (onBasket lane msg (closeLane mem lane msg ((tenderOf k).getD .other))) rfl
  · exact hnumbered true (onBasket lane msg (cancelLane mem lane msg)) rfl

end Sys2Proof.Proofs
end

section
/-! The requests that read: what stands is answered, and what is read is checked (R17, R22, R75 to R77). -/

namespace Sys2Proof.Machine

variable {s : State}

/-! ### A checked read of an item (R22) -/

theorem checkItem_damaged (mem : MemFaults) {code : Nat} {r : ItemRecord} (hi : s.item code = some r) (hd : r.damaged = true) :
    checkItem mem code s = s := by
  simp [checkItem, hi, hd]

theorem checkItem_first {mem : MemFaults} {code : Nat} {r : ItemRecord} (hi : s.item code = some r) (hd : r.damaged = false)
    (hm : code ∈ mem.items) : checkItem mem code s = (s.putItem { r with damaged := true }).logFault .memory 502 (.item code) := by
  simp [checkItem, hi, hd, hm]

theorem Session.statusTaken_eq (x : Session) :
    x.statusTaken = { x with service := false, seenOwed := x.seenOwed || x.service } := by
  unfold statusTaken
  obtain ⟨st, sn, tid, lk, ms, ls, service, seen⟩ := x
  cases service
  · exact congrArg (fun b => Session.mk st sn tid lk ms ls false b _ _ _ _ _ _ _ _) (Bool.or_false seen).symm
  · exact congrArg (fun b => Session.mk st sn tid lk ms ls false b _ _ _ _ _ _ _ _) (Bool.or_true seen).symm

/-! ### A checked read of a journal page (R75) -/

theorem JournalRecord.afterRead_same (mem : MemFaults) (i : Nat) (r : JournalRecord) :
    (r.afterRead mem i).seq = r.seq ∧ (r.afterRead mem i).content = r.content ∧
      (r.afterRead mem i).damaged = (r.damaged || r.pageFails mem i) := by
  unfold afterRead
  split
  · next h => exact ⟨rfl, rfl, by simp [h]⟩
  · next h => exact ⟨rfl, rfl, by simp [h]⟩

/-- The records after a page of record `r` is read. -/
def readRecords (mem : MemFaults) (r : JournalRecord) (i : Nat) (rs : List JournalRecord) : List JournalRecord :=
  rs.map fun x => if x.seq = r.seq then x.afterRead mem i else x

theorem checkPage_records (mem : MemFaults) (r : JournalRecord) (i : Nat) :
    (checkPage mem r i s).jnl.records = readRecords mem r i s.jnl.records := by
  unfold checkPage
  split <;> rfl

theorem checkPage_memory (mem : MemFaults) (r : JournalRecord) (i : Nat) : (checkPage mem r i s).msp.memory =
    if r.pageFails mem i = true ∧ r.damaged = false then s.msp.memory.log 503 s.now (.journalPage r.seq i) else s.msp.memory := by
  unfold checkPage
  split
  · next h =>
    rw [if_pos (by simpa [JournalRecord.firstFailure, and_comm] using h)]
    exact logFault_own .memory 503 (.journalPage r.seq i) s
  · next h => rw [if_neg (by simpa [JournalRecord.firstFailure, and_comm] using h)]

/-- Reading a page moves no record and changes no content. -/
theorem readRecords_contents (mem : MemFaults) (r : JournalRecord) (i : Nat) (rs : List JournalRecord) :
    (readRecords mem r i rs).map (·.content) = rs.map (·.content) := by
  rw [readRecords, List.map_map]
  refine List.map_congr_left fun x _ => ?_
  dsimp only [Function.comp_apply]
  split
  · exact (x.afterRead_same mem i).2.1
  · rfl

/-- The record that was found is found again, read. -/
theorem readRecords_find {mem : MemFaults} {r : JournalRecord} {i : Nat} {rs : List JournalRecord}
    (h : rs.find? (fun x => x.seq == r.seq) = some r) :
    (readRecords mem r i rs).find? (fun x => x.seq == r.seq) = some (r.afterRead mem i) := by
  have hsame : ((fun x : JournalRecord => x.seq == r.seq) ∘ fun x => if x.seq = r.seq then x.afterRead mem i else x) =
      fun x => x.seq == r.seq := by
    funext x
    dsimp only [Function.comp_apply]
    split
    · rw [(x.afterRead_same mem i).1]
    · rfl
  rw [readRecords, List.find?_map, hsame, h, Option.map_some, if_pos rfl]

end Sys2Proof.Machine

namespace Sys2Proof.Proofs
open Sys2Proof.Machine

/-- Settles O33, one request after another. -/
theorem readingRequestsAnswerWhatStands : Obligations.ReadingRequestsAnswerWhatStands := by
  intro tag s htake
  refine ⟨?_, fun a hrail hslot => ⟨s.lrc.view a, ?_, rfl, rfl, rfl, rfl, rfl, rfl, rfl, rfl, rfl, rfl⟩,
    fun hw hgroup => ⟨guestView hw s, ?_, rfl, rfl, rfl, rfl, rfl, rfl, rfl, rfl⟩,
    ⟨uplinkView s, ?_, rfl, rfl, rfl, rfl, rfl, rfl, rfl, rfl, rfl, rfl, rfl⟩,
    ⟨exchangeView s, ?_, rfl, rfl, rfl, rfl, rfl, rfl, rfl, rfl⟩, ⟨identity.capacities, ?_⟩, fun lane hlane => ?_⟩
  · exact next_taken (f := withoutBody true journalStatus) rfl htake rfl
  · exact next_taken (f := withBody (some a) labelGet) rfl htake (by simp [withBody, labelGet, addrOk, hrail, hslot])
  · have hany : hw.any isGroup = false := by
      cases hw with
      | none => rfl
      | some h => exact hgroup h rfl
    exact next_taken (f := withBody (some hw) guestGet) rfl htake (by simp [withBody, guestGet, hany])
  · exact next_taken (f := withoutBody true uplinkStatus) rfl htake rfl
  · exact next_taken (f := withoutBody true exchangeStatus) rfl htake rfl
  · exact next_taken (f := withoutBody true identify) rfl htake rfl
  · refine next_taken (f := withBody (some lane) fun l => withLane l tillStatus) rfl htake ((withLane_ok _ hlane).trans ?_)
    rw [tillStatus, Session.statusTaken_eq]
    rfl

/-- Settles O34, by whether the record's or the page's check fails, and has failed before. -/
theorem readsCheckWhatTheyRead : Obligations.ReadsCheckWhatTheyRead := by
  intro tag mem s htake
  refine ⟨fun code r hcode hitem => ?_, fun seq i r hseq hfind hi hi50 => ?_⟩
  · have hget {t : State} {q : ItemRecord} (hcheck : checkItem mem r.code s = t) (hq : t.item r.code = some q) (hitb : t.itb.epoch = s.itb.epoch)
        (hpend : t.itb.pendingBatch = s.itb.pendingBatch) : exec (.itemGet tag (some code) mem) s =
          .next (t.addReply tag .request (.ok (.item q.shown s.itb.epoch s.itb.pendingBatch) [])) := by
      refine next_taken (f := withBody (some code) fun c => withItem c (itemGet mem)) rfl htake
        ((withItem_some _ hcode hitem).trans ?_)
      simp only [itemGet, hcheck, hq, Option.getD_some, hitb, hpend]
    have hc := item_code hitem
    refine ⟨fun hd hm => ?_, fun hd => ?_, fun hd hm => ?_⟩
    · rw [hget (checkItem_clean mem s (hc ▸ hm)) (hc ▸ hitem) rfl rfl]
      simp [ItemRecord.shown, hd]
    · rw [hget (checkItem_damaged mem (hc ▸ hitem) hd) (hc ▸ hitem) rfl rfl]
      simp [ItemRecord.shown, hd]
    · have hput : (s.putItem { r with damaged := true }).item r.code = some { r with damaged := true } :=
        putItem_item s { r with damaged := true }
      rw [hget (checkItem_first (hc ▸ hitem) hd (hc ▸ hm)) (by rw [logFault_item, hput]) rfl rfl, hc]
      rfl
  · intro fails
    have hr : r.seq = seq := by simpa using List.find?_some hfind
    subst hr
    have hrun : withBody (some ⟨r.seq, some i⟩) (journalRead mem) s = (checkPage mem r i s, .ok (.journalPage (r.view mem i (s.jnl.isAcknowledged r))) []) := by
      simp [withBody, journalRead, hfind, hi, Nat.not_lt.mpr hi50, Nat.pos_iff_ne_zero.mp hseq]
    obtain ⟨rs, m, hframe, hreplies, -⟩ := checkPage_frame mem r i s
    obtain ⟨-, -, hdamaged⟩ := r.afterRead_same mem i
    have hview : r.view mem i (s.jnl.isAcknowledged r) = ⟨r.content.kind, r.seq, r.pages, r.time, r.clockSet, r.damaged || fails,
        if fails then (r.content.page r.damaged i).emptied else r.content.page r.damaged i, s.jnl.isAcknowledged r⟩ := by
      rw [JournalRecord.view, hdamaged]
      rfl
    have hrecords := checkPage_records (s := s) mem r i
    refine ⟨_, next_taken (f := withBody (some ⟨r.seq, some i⟩) (journalRead mem)) rfl htake hrun, ?_, ?_, ?_, ?_, ?_⟩
    · rw [hframe]
      rfl
    · exact (congrArg (List.map (·.content)) hrecords).trans (readRecords_contents mem r i _)
    · rw [addReply_replies, hframe, hview, hreplies]
    · exact checkPage_memory mem r i
    · exact (congrArg (fun rs : List JournalRecord => (rs.find? fun x => x.seq == r.seq).map (·.damaged)) hrecords).trans
        (by rw [readRecords_find hfind, Option.map_some, hdamaged])

end Sys2Proof.Proofs
end

section
/-! The journal's own work: reclaim before an append, the upload mark at an acknowledgement (R69 to R74). -/

namespace Sys2Proof.Machine

variable {s : State}

/-! ### The oldest pointer over reclaimed records (R70) -/

/-- A pointer moved past records, one after another. -/
def pastRecords (p : JournalPtr) (rs : List JournalRecord) : JournalPtr := rs.foldl (fun _ r => r.next) p

theorem pastRecords_none {p : JournalPtr} {rs : List JournalRecord} (h : rs.getLast? = none) : pastRecords p rs = p := by
  rw [List.getLast?_eq_none_iff.mp h]
  rfl

theorem pastRecords_some {p : JournalPtr} {rs : List JournalRecord} {r : JournalRecord} (h : rs.getLast? = some r) :
    pastRecords p rs = r.next := by
  obtain ⟨qs, rfl⟩ := List.getLast?_eq_some_iff.mp h
  simp [pastRecords, List.foldl_append]

/-- The header page's read finds no first failure (R75). -/
def JournalRecord.HeaderQuiet (mem : MemFaults) (r : JournalRecord) : Prop :=
  r.damaged = true ∨ (0 ∉ r.badPages ∧ (r.seq, 0) ∉ mem.pages)

theorem JournalRecord.headerQuiet_iff (mem : MemFaults) (r : JournalRecord) :
    r.HeaderQuiet mem ↔ r.damaged = true ∨ r.pageFails mem 0 = false := by
  simp [HeaderQuiet, pageFails]

theorem JournalRecord.afterRead_next (mem : MemFaults) (r : JournalRecord) : (r.afterRead mem 0).next = r.next := by
  unfold afterRead
  split <;> rfl

theorem JournalRecord.headerQuiet_afterRead {mem : MemFaults} {r : JournalRecord} (h : r.HeaderQuiet mem) :
    (r.afterRead mem 0).HeaderQuiet mem := by
  unfold afterRead
  split
  · exact .inl rfl
  · exact h

/-- One record after the header page of record `r` is read. -/
def headerRead (mem : MemFaults) (r x : JournalRecord) : JournalRecord := if x.seq = r.seq then x.afterRead mem 0 else x

theorem headerRead_next (mem : MemFaults) (r x : JournalRecord) : (headerRead mem r x).next = x.next := by
  unfold headerRead
  split
  · exact x.afterRead_next mem
  · rfl

theorem headerRead_key (mem : MemFaults) (r x : JournalRecord) :
    ((headerRead mem r x).seq, (headerRead mem r x).pos, (headerRead mem r x).content) = (x.seq, x.pos, x.content) := by
  unfold headerRead JournalRecord.afterRead
  split
  · split <;> rfl
  · rfl

theorem headerRead_quiet {mem : MemFaults} {r x : JournalRecord} (h : x.HeaderQuiet mem) : (headerRead mem r x).HeaderQuiet mem := by
  unfold headerRead
  split
  · exact JournalRecord.headerQuiet_afterRead h
  · exact h

theorem pastRecords_headerRead (mem : MemFaults) (r : JournalRecord) (p : JournalPtr) (rs : List JournalRecord) :
    pastRecords p (rs.map (headerRead mem r)) = pastRecords p rs := by
  simp only [pastRecords, List.foldl_map, headerRead_next]

/-! ### Reclaim (R70) -/

theorem reclaimOne_cons (mem : MemFaults) {r : JournalRecord} {rs : List JournalRecord} (h : s.jnl.records = r :: rs) :
    ∃ m, reclaimOne mem s = { s with jnl := { s.jnl with records := rs.map (headerRead mem r), oldest := r.next }, msp := m } ∧
      (r.HeaderQuiet mem → m = s.msp) := by
  obtain ⟨qs, m, hframe, -⟩ := checkPage_frame mem r 0 s
  have hrecords := checkPage_records (s := s) mem r 0
  refine ⟨m, ?_, fun hq => ?_⟩
  · have hone : reclaimOne mem s =
        { checkPage mem r 0 s with jnl := { (checkPage mem r 0 s).jnl with records := (checkPage mem r 0 s).jnl.records.tail, oldest := r.next } } := by
      simp only [reclaimOne, h]
    rw [hone, hrecords, h, hframe]
    rfl
  · have hfirst : r.firstFailure mem 0 = false := by
      rcases (r.headerQuiet_iff mem).mp hq with hd | hf
      · simp [JournalRecord.firstFailure, hd]
      · simp [JournalRecord.firstFailure, hf]
    have hmsp : (checkPage mem r 0 s).msp = s.msp := by simp [checkPage, hfirst]
    rw [← hmsp, hframe]

theorem reclaim_stop (mem : MemFaults) {need : Nat} (fuel : Nat) (h : need ≤ s.jnl.free ∨ s.jnl.oldest = s.jnl.mark) :
    reclaim mem need fuel s = s := by
  cases fuel with
  | zero => rfl
  | succ n => exact if_pos h

theorem reclaim_empty (mem : MemFaults) (need fuel : Nat) (h : s.jnl.records = []) : reclaim mem need fuel s = s := by
  induction fuel with
  | zero => rfl
  | succ n ih =>
    have hone : reclaimOne mem s = s := by simp only [reclaimOne, h]
    unfold reclaim
    rw [hone, ih, ite_self]

/-- Reclaims go on while pages are short and acknowledged records are left, and stop there (R70). -/
theorem reclaim_spec (mem : MemFaults) (need : Nat) (gone kept : List JournalRecord) (fuel : Nat) (s : State)
    (hfuel : gone.length ≤ fuel) (hrec : s.jnl.records = gone ++ kept)
    (hgo : ∀ p r q, gone = p ++ r :: q →
      ringPages - pagesBetween (pastRecords s.jnl.oldest p) s.jnl.append < need ∧ pastRecords s.jnl.oldest p ≠ s.jnl.mark)
    (hstop : need ≤ ringPages - pagesBetween (pastRecords s.jnl.oldest gone) s.jnl.append ∨ pastRecords s.jnl.oldest gone = s.jnl.mark ∨
      kept = []) :
    ∃ rs m, reclaim mem need fuel s =
        { s with jnl := { s.jnl with records := rs, oldest := pastRecords s.jnl.oldest gone }, msp := m } ∧
      rs.map (fun r => (r.seq, r.pos, r.content)) = kept.map (fun r => (r.seq, r.pos, r.content)) ∧
      ((∀ r ∈ gone, r.HeaderQuiet mem) → m = s.msp) := by
  induction hn : gone.length generalizing gone kept fuel s with
  | zero =>
    obtain rfl := List.length_eq_zero_iff.mp hn
    refine ⟨kept, s.msp, ?_, rfl, fun _ => rfl⟩
    have hsame : { s with jnl := { s.jnl with records := kept, oldest := pastRecords s.jnl.oldest [] }, msp := s.msp } = s := by
      rw [show kept = s.jnl.records from hrec.symm]
      rfl
    rw [hsame]
    rcases hstop with hfree | hmark | hnone
    · exact reclaim_stop mem fuel (.inl hfree)
    · exact reclaim_stop mem fuel (.inr hmark)
    · exact reclaim_empty mem need fuel (by rw [hrec, hnone]; rfl)
  | succ k ih =>
    obtain ⟨r, gone, rfl⟩ := List.exists_cons_of_length_eq_add_one hn
    rw [List.length_cons] at hfuel hn
    obtain ⟨n, rfl⟩ : ∃ n, fuel = n + 1 := ⟨fuel - 1, by omega⟩
    obtain ⟨hshort, hmark⟩ := hgo [] r gone rfl
    obtain ⟨m, hone, hquiet⟩ := reclaimOne_cons (s := s) mem (show s.jnl.records = r :: (gone ++ kept) from hrec)
    have hstep : reclaim mem need (n + 1) s = reclaim mem need n (reclaimOne mem s) :=
      if_neg fun h => h.elim (fun h => absurd h (Nat.not_le.mpr hshort)) fun h => hmark h
    have hgo' : ∀ p x q, gone.map (headerRead mem r) = p ++ x :: q →
        ringPages - pagesBetween (pastRecords r.next p) s.jnl.append < need ∧ pastRecords r.next p ≠ s.jnl.mark := by
      intro p x q h
      obtain ⟨p, xs, rfl, rfl, hxs⟩ := List.map_eq_append_iff.mp h
      obtain ⟨x, q, rfl, -, -⟩ := List.map_eq_cons_iff.mp hxs
      rw [pastRecords_headerRead]
      exact hgo (r :: p) x q rfl
    have hstop' : need ≤ ringPages - pagesBetween (pastRecords r.next (gone.map (headerRead mem r))) s.jnl.append ∨
        pastRecords r.next (gone.map (headerRead mem r)) = s.jnl.mark ∨ kept.map (headerRead mem r) = [] := by
      rw [pastRecords_headerRead, List.map_eq_nil_iff]
      exact hstop
    obtain ⟨rs, m', hrest, hkeys, hquiet'⟩ := ih (gone.map (headerRead mem r)) (kept.map (headerRead mem r)) n
      { s with jnl := { s.jnl with records := (gone ++ kept).map (headerRead mem r), oldest := r.next }, msp := m }
      (by rw [List.length_map]; omega) List.map_append hgo' hstop' (by rw [List.length_map]; omega)
    refine ⟨rs, m', ?_, ?_, fun hall => ?_⟩
    · rw [hstep, hone, hrest, pastRecords_headerRead]
      rfl
    · rw [hkeys, List.map_map]
      exact List.map_congr_left fun x _ => headerRead_key mem r x
    · rw [hquiet' fun x hx => ?_, hquiet (hall r List.mem_cons_self)]
      obtain ⟨y, hy, rfl⟩ := List.mem_map.mp hx
      exact headerRead_quiet (hall y (List.mem_cons_of_mem _ hy))

/-- What an accepted append reports, and the flag it takes down (R72). -/
theorem judgeHighWater_eq : judgeHighWater s = { s with
    jnl := { s.jnl with highArmed := s.jnl.highArmed && decide (s.jnl.unuploaded < 117965) }
    msp := { s.msp with
      reports := if s.jnl.highArmed = true ∧ 117965 ≤ s.jnl.unuploaded then
        queueReport s.now (.journalHigh s.jnl.unuploaded s.jnl.free s.jnl.mark.seq) s.msp.reports else s.msp.reports } } := by
  have hlevel : (s.jnl.highArmed && decide (highWater ≤ s.jnl.unuploaded)) = true ↔
      s.jnl.highArmed = true ∧ 117965 ≤ s.jnl.unuploaded := by
    rw [Bool.and_eq_true, decide_eq_true_eq]
    rfl
  unfold judgeHighWater
  by_cases h : s.jnl.highArmed = true ∧ 117965 ≤ s.jnl.unuploaded
  · have hflag : (s.jnl.highArmed && decide (s.jnl.unuploaded < 117965)) = false := by simp [h.1, h.2]
    rw [if_pos (hlevel.mpr h), if_pos h, hflag]
    rfl
  · have hflag : (s.jnl.highArmed && decide (s.jnl.unuploaded < 117965)) = s.jnl.highArmed := by
      cases ha : s.jnl.highArmed with
      | false => rfl
      | true =>
        have : s.jnl.unuploaded < 117965 := by simpa [ha] using h
        simp [this]
    rw [if_neg (mt hlevel.mp h), if_neg h, hflag]

/-! ### The upload mark (R74) -/

/-- The mark passes the records that lie whole before the extent, and stops at the first that does not. -/
theorem passRecords_append (passed rest : List JournalRecord) (n : Nat) (m : JournalPtr) (hsum : (passed.map (·.pages)).sum ≤ n)
    (hrest : ∀ r, rest.head? = some r → n < (passed.map (·.pages)).sum + r.pages) :
    (passRecords (passed ++ rest) n m).1 = pastRecords m passed := by
  induction passed generalizing n m with
  | nil =>
    cases rest with
    | nil => rfl
    | cons r rest =>
      have h : n < r.pages := by simpa using hrest r rfl
      simp [passRecords, Nat.not_le.mpr h, pastRecords]
  | cons r passed ih =>
    rw [List.map_cons, List.sum_cons] at hsum
    have hr : r.pages ≤ n := by omega
    have := ih (n - r.pages) r.next (by omega) fun x hx => by
      have := hrest x hx
      rw [List.map_cons, List.sum_cons] at this
      omega
    simpa [passRecords, hr, pastRecords] using this

end Sys2Proof.Machine

namespace Sys2Proof.Proofs
open Sys2Proof.Machine

/-- Settles O60, the refusal, the reclaiming append and the two notices in turn. -/
theorem journalReclaimsRefusesAndMovesItsMark : Obligations.JournalReclaimsRefusesAndMovesItsMark := by
  intro s after
  refine ⟨fun mem c hfull => ?_, fun mem c gone kept hfit hrec => ?_, fun extent hlim => ?_, fun extent lim hlim => ?_⟩
  · have hnot : s.jnl.fits c = false := by
      rw [Journal.fits, decide_eq_false_iff_not]
      exact Nat.not_le.mpr hfull
    rw [journalAppend_refused mem c hnot]
    unfold refuseAppend
    cases ha : s.jnl.fullArmed with
    | true =>
      simp only [ha, if_true]
      rfl
    | false =>
      simp only [ha, Bool.false_eq_true, if_false]
      rfl
  · intro oldest room hgo hstop
    have hold (p : List JournalRecord) : oldest p = pastRecords s.jnl.oldest p := by
      dsimp only [oldest]
      split
      · next r h => exact (pastRecords_some h).symm
      · next h => exact (pastRecords_none h).symm
    have hacc : s.jnl.fits c = true := decide_eq_true hfit
    obtain ⟨rs, m, hreclaim, hkeys, hquiet⟩ := reclaim_spec mem c.pageCount gone kept s.jnl.records.length s
      (by rw [hrec, List.length_append]; omega) hrec
      (fun p r q h => by rw [← hold]; exact hgo p r q h)
      (by rw [← hold]; exact hstop)
    refine ⟨_, journalAppend_accepted mem c hacc, ?_⟩
    rw [acceptAppend, hreclaim, judgeHighWater_eq]
    refine ⟨rfl, ?_, ?_, rfl, fun hall => ?_⟩
    · rw [hold]
      rfl
    · simp only [writeRecord, List.map_append, hkeys]
      rfl
    · rw [hquiet hall]
      rfl
  · simp only [acknowledge, hlim]
  · intro pages
    have hnotice : acknowledge extent s = if pages ≤ pagesBetween s.jnl.mark lim then
        { s with jnl := Journal.rearm { s.jnl with mark := (passRecords s.jnl.unacknowledged pages s.jnl.mark).1 } } else s := by
      simp only [acknowledge, hlim]
      rfl
    refine ⟨fun hover => hnotice.trans (if_neg (Nat.not_le.mpr hover)), fun hin passed rest hun hsum hrest => ?_⟩
    · have hmark : (passRecords s.jnl.unacknowledged pages s.jnl.mark).1 = pastRecords s.jnl.mark passed := by
        rw [Journal.unacknowledged, hun]
        exact passRecords_append passed rest pages s.jnl.mark hsum hrest
      have hack : acknowledge extent s = { s with jnl := Journal.rearm { s.jnl with mark := pastRecords s.jnl.mark passed } } := by
        rw [hnotice, if_pos hin, hmark]
      intro t
      have ht : t = _ := hack
      rw [ht]
      refine ⟨rfl, ?_, rfl, rfl⟩
      split
      · next r h => exact pastRecords_some h
      · next h => exact pastRecords_none h

end Sys2Proof.Proofs
end

section
/-! The close computation: groups listed by their first line, and the tax of each band (R34 to R36). -/

namespace Sys2Proof.Machine

/-! ### One element for each key, in order -/

section Firsts
variable {α κ : Type} [DecidableEq κ]

/-- The elements of a list that are the first of their key. -/
def firstsBy (key : α → κ) : List α → List α
  | [] => []
  | x :: xs => x :: (firstsBy key xs).filter fun y => decide (key y ≠ key x)

theorem map_firstsBy (key : α → κ) (xs : List α) : (firstsBy key xs).map key = distinct (xs.map key) := by
  induction xs with
  | nil => rfl
  | cons x xs ih =>
    simp only [firstsBy, List.map_cons, distinct, ← ih, List.filter_map]
    rfl

theorem firstsBy_sublist (key : α → κ) (xs : List α) : (firstsBy key xs).Sublist xs := by
  induction xs with
  | nil => exact List.Sublist.slnil
  | cons x xs ih => exact (List.filter_sublist.trans ih).cons_cons x

theorem firstsBy_pairwise (key : α → κ) (xs : List α) : (firstsBy key xs).Pairwise fun x y => key y ≠ key x := by
  induction xs with
  | nil => exact List.Pairwise.nil
  | cons x xs ih => exact List.pairwise_cons.mpr ⟨fun y hy => by simpa using (List.mem_filter.mp hy).2, ih.filter _⟩

theorem firstsBy_covers (key : α → κ) {xs : List α} {y : α} (hy : y ∈ xs) : ∃ x ∈ firstsBy key xs, key y = key x := by
  induction xs with
  | nil => exact absurd hy List.not_mem_nil
  | cons x xs ih =>
    by_cases hk : key y = key x
    · exact ⟨x, List.mem_cons_self, hk⟩
    · rcases List.mem_cons.mp hy with rfl | hmem
      · exact absurd rfl hk
      · obtain ⟨z, hz, hyz⟩ := ih hmem
        exact ⟨z, List.mem_cons_of_mem _ (List.mem_filter.mpr ⟨hz, by simpa [← hyz] using hk⟩), hyz⟩

theorem firstsBy_find (key : α → κ) {xs : List α} {x : α} (hx : x ∈ firstsBy key xs) :
    xs.find? (fun y => decide (key y = key x)) = some x := by
  induction xs with
  | nil => exact absurd hx List.not_mem_nil
  | cons z xs ih =>
    rcases List.mem_cons.mp hx with rfl | hmem
    · exact List.find?_cons_of_pos (by simp)
    · obtain ⟨hin, hne⟩ := List.mem_filter.mp hmem
      have hz : key x ≠ key z := by simpa using hne
      rw [List.find?_cons_of_neg (by simpa using hz.symm)]
      exact ih hin

end Firsts

/-! ### Bands (R35, R36) -/

theorem bandAmount_eq (lines : List Line) (b : Nat) : bandAmount lines b =
    (((lines.filter fun l => !l.voided).filter fun l => l.band == b).map (·.amount)).sum -
      (((groupDiscounts lines).filter fun g => g.band == b).map (·.discount)).sum := by
  rw [bandAmount, runningTotal, List.filter_filter, List.filter_filter]
  simp only [Bool.and_comm]

theorem mem_bandTaxes {rates : Vector Nat 8} {lines : List Line} {e : BandTax} : e ∈ bandTaxes rates lines ↔
    e.band < 8 ∧ bandAmount lines e.band ≠ 0 ∧ e.amount = bandAmount lines e.band ∧ e.tax = taxContent e.amount (tget rates e.band 0) := by
  obtain ⟨band, amount, tax⟩ := e
  simp only [bandTaxes, List.mem_filterMap, List.mem_range, Option.ite_none_left_eq_some, Option.some_inj, BandTax.mk.injEq]
  constructor
  · rintro ⟨b, hb, hne, rfl, rfl, rfl⟩
    exact ⟨hb, hne, rfl, rfl⟩
  · rintro ⟨hb, hne, rfl, rfl⟩
    exact ⟨band, hb, hne, rfl, rfl, rfl⟩

theorem taxContent_le (amount rate : Nat) : taxContent amount rate ≤ amount := by
  obtain ⟨h, -⟩ := roundDiv_spec (amount * rate) (10000 + rate) (by omega)
  by_contra hover
  have hstep := Nat.mul_le_mul_left (2 * (10000 + rate)) 
    (show amount + 1 ≤ roundDiv (amount * rate) (10000 + rate) from Nat.not_le.mp hover)
  have hsplit : 2 * (10000 + rate) * (amount + 1) = 20000 * amount + 2 * (amount * rate) + 2 * (10000 + rate) := by ring
  omega

theorem taxContent_zero (amount : Nat) : taxContent amount 0 = 0 := by simp [taxContent]

end Sys2Proof.Machine

namespace Sys2Proof.Proofs
open Sys2Proof.Machine

/-- Settles O20: a group is its key, the bands are numbered in order. -/
theorem taxContentNeverExceedsItsBand : Obligations.TaxContentNeverExceedsItsBand := by
  intro rates lines live multi same quantity listed discounts taxes
  have hmulti : lines.filter (·.grouped) = multi := by
    rw [show multi = _ from List.filter_filter]
    refine List.filter_congr fun l _ => ?_
    rw [Bool.and_comm]
    rfl
  have hsame (x l : Line) : same x l = decide (l.groupKey = x.groupKey) := by
    simp only [same, Line.groupKey, GroupKey.mk.injEq, Bool.decide_and, Bool.and_assoc]
  have hquantity (x : Line) : groupQuantity lines x.groupKey = quantity x := by
    simp only [groupQuantity, quantity, ← hmulti, List.filter_filter, hsame, Bool.and_comm]
    rfl
  have hlisted (x : Line) : groupDiscount lines x.groupKey = listed x := by
    simp only [groupDiscount, listed, hquantity]
    rfl
  refine ⟨⟨firstsBy Line.groupKey multi, firstsBy_sublist .., ?_, fun l hl => ?_, fun x hx => ?_, ?_⟩, rfl, ?_, fun b hb => ?_,
    fun e he => ?_⟩
  · exact (firstsBy_pairwise Line.groupKey multi).imp fun h => by simpa [hsame] using h
  · obtain ⟨x, hx, hkey⟩ := firstsBy_covers Line.groupKey hl
    exact ⟨x, hx, by simpa [hsame] using hkey⟩
  · rw [funext (hsame x)]
    exact firstsBy_find Line.groupKey hx
  · calc discounts = (distinct (multi.map Line.groupKey)).filterMap (groupDiscount lines) := by rw [← hmulti]; rfl
      _ = (firstsBy Line.groupKey multi).filterMap listed := by
        rw [← map_firstsBy, List.filterMap_map]
        exact List.filterMap_congr fun x _ => hlisted x
  · refine List.pairwise_filterMap.mpr (List.pairwise_lt_range.imp fun {a b} hab x hx y hy => ?_)
    obtain ⟨-, hx⟩ := Option.ite_none_left_eq_some.mp hx
    obtain ⟨-, hy⟩ := Option.ite_none_left_eq_some.mp hy
    rw [← Option.some_inj.mp hx, ← Option.some_inj.mp hy]
    exact hab
  · have hamount := bandAmount_eq lines b
    intro amount x y
    refine ⟨fun hzero e he hband => ?_, fun hpos => mem_bandTaxes.mpr ⟨?_, ?_, hamount.symm, rfl⟩⟩
    · obtain ⟨-, hne, -⟩ := mem_bandTaxes.mp he
      rw [hband, hamount] at hne
      exact hne hzero
    · exact Nat.lt_succ_of_le hb
    · rw [hamount]
      exact Nat.pos_iff_ne_zero.mp hpos
  · obtain ⟨hb, -, -, ht⟩ := mem_bandTaxes.mp he
    refine ⟨by omega, ht ▸ taxContent_le .., fun h => ?_⟩
    rw [ht, h, taxContent_zero]

end Sys2Proof.Proofs
end

section
/-! The routing requests: one entry, cell, row or profile written, or refused (R122, R127 to R132, R150, R155). -/

namespace Sys2Proof.Machine

variable {s : State}

/-! ### RANGE-SET (R127) -/

theorem otherHolding_eq_none {f : RangeEntry → Bool} {i : Nat} {z : Forwarder} (h : ∀ j, j ≤ 31 → j ≠ i → f (z.range j) = false) :
    otherHolding f i z = none := by
  refine List.find?_eq_none.mpr fun j hj => ?_
  have hlt := List.mem_range.mp hj
  by_cases hne : j = i
  · simp [hne]
  · simp [h j (by omega) hne]

/-- The one other entry that holds what the search looks for is found. -/
theorem otherHolding_eq_some {f : RangeEntry → Bool} {i j : Nat} {z : Forwarder} (hj : j ≤ 31) (hne : j ≠ i) (hf : f (z.range j) = true)
    (hone : ∀ k, k ≤ 31 → f (z.range k) = true → k = j) : otherHolding f i z = some j := by
  have hlt : j < 32 := by omega
  cases hfound : otherHolding f i z with
  | none =>
    have := otherHolding_none hfound hlt hne
    rw [hf] at this
    exact absurd this nofun
  | some k =>
    have hholds := List.find?_some hfound
    have hk := List.mem_range.mp (List.mem_of_find?_eq_some hfound)
    rw [Bool.and_eq_true] at hholds
    rw [hone k (by omega) hholds.2]

theorem rangeSet_fields {a : RangeArgs} {z : RangeZone} (hindex : a.index ≤ 31) (hzone : rangeZoneOf a.zone = some z)
    (hpeer : a.peer = true → z = .headoffice) (hclaim : a.claim = true → z = .payment) {r : Option Reply}
    (hr : rangeRefusal a.index ⟨a.base, a.mask, a.enable, z, a.peer, a.claim⟩ s = r) :
    rangeSet a s = r.elim
      (setRange a.index ⟨a.base, a.mask, a.enable, z, a.peer, a.claim⟩ s,
        .ok (.range (s.zfw.range a.index) ⟨a.base, a.mask, a.enable, z, a.peer, a.claim⟩) [])
      (fun r => (s, r)) := by
  have hin : ¬(31 < a.index ∨ (a.peer = true ∧ z ≠ .headoffice) ∨ (a.claim = true ∧ z ≠ .payment)) := by
    rintro (h | ⟨h, hne⟩ | ⟨h, hne⟩)
    · omega
    · exact hne (hpeer h)
    · exact hne (hclaim h)
  simp only [rangeSet, hzone, if_neg hin, hr]
  cases r <;> rfl

/-! ### HINT-SET (R131) -/

/-- The pairs of zones that have a row, in the order of their rows (R125). -/
def hintPairs : List (Zone × Zone) :=
  [(.store, .headoffice), (.store, .payment), (.store, .internet), (.till, .headoffice), (.till, .payment), (.till, .internet)]

theorem hintPairs_of_hintRow {x y : Zone} {i : Nat} (h : hintRow x y = some i) : hintPairs[i]? = some (x, y) := by
  cases x <;> cases y <;> cases h <;> rfl

theorem hintRow_lt {x y : Zone} {i : Nat} (h : hintRow x y = some i) : i < 6 :=
  (List.getElem?_eq_some_iff.mp (hintPairs_of_hintRow h)).1

theorem hintRow_injective {x y src dst : Zone} {i : Nat} (h : hintRow src dst = some i) (hxy : hintRow x y = some i) :
    x = src ∧ y = dst :=
  Prod.mk.inj (Option.some_inj.mp ((hintPairs_of_hintRow hxy).symm.trans (hintPairs_of_hintRow h)))

theorem hintRow_zones {x y : Zone} {i : Nat} (h : hintRow x y = some i) :
    (x = .store ∧ y = .headoffice) ∨ (x = .store ∧ y = .payment) ∨ (x = .store ∧ y = .internet) ∨
      (x = .till ∧ y = .headoffice) ∨ (x = .till ∧ y = .payment) ∨ (x = .till ∧ y = .internet) := by
  simpa [hintPairs] using List.mem_of_getElem? (hintPairs_of_hintRow h)

theorem hintRow_isSome {src dst : Zone} (hsrc : src = .store ∨ src = .till) (hdst : dst = .headoffice ∨ dst = .payment ∨ dst = .internet) :
    ∃ i, hintRow src dst = some i := by
  rcases hsrc with rfl | rfl <;> rcases hdst with rfl | rfl | rfl <;> exact ⟨_, rfl⟩

/-- The class of a pair whose row was written is what the row picks. -/
theorem classOf_tset {z : Forwarder} {src dst : Zone} {i : Nat} {h : HintRow} (hrow : hintRow src dst = some i) (k : Option Nat) :
    Forwarder.classOf src dst k { z with hints := tset z.hints i h } = some (h.pick (z.kindOf k)).toClass := by
  rw [Forwarder.classOf, hrow, Option.map_some]
  exact congrArg (fun r : HintRow => some (r.pick (z.kindOf k)).toClass) (tget_tset_same z.hints i h HintRow.cold (hintRow_lt hrow))

theorem classOf_tset_ne {z : Forwarder} {src dst x y : Zone} {i : Nat} {h : HintRow} (hrow : hintRow src dst = some i) (k : Option Nat)
    (hne : ¬(x = src ∧ y = dst)) : Forwarder.classOf x y k { z with hints := tset z.hints i h } = z.classOf x y k := by
  unfold Forwarder.classOf
  cases hxy : hintRow x y with
  | none => rfl
  | some j =>
    have hij : i ≠ j := fun h => hne (hintRow_injective hrow (h ▸ hxy))
    exact congrArg (fun r : HintRow => some (r.pick (z.kindOf k)).toClass) (tget_tset_ne z.hints i j h HintRow.cold hij)

theorem kindOf_none {z : Forwarder} (h : ∀ x ∈ z.kinds.toList, x = none) (k : Option Nat) : z.kindOf k = .bulk := by
  unfold Forwarder.kindOf
  cases k with
  | none => rfl
  | some p =>
    dsimp only
    rw [List.find?_eq_none.mpr fun x hx => by simp [h x hx]]

theorem kindOf_head {z : Forwarder} {lo hi : Nat} {e : TrafficKind} (h : z.kinds.toList.head? = some (some ⟨lo, hi, e⟩)) (hle : lo ≤ hi) :
    z.kindOf (some lo) = e := by
  obtain ⟨rest, hkinds⟩ := List.head?_eq_some_iff.mp h
  unfold Forwarder.kindOf
  dsimp only
  rw [hkinds, List.find?_cons_of_pos (by simp [hle])]

/-! ### PORTAL-SET (R132) -/

theorem portalOk_iff (p : Portal) (z : Forwarder) : portalOk p z = true ↔
    maskOk p.mask = true ∧ p.base &&& p.mask = p.base ∧ p.addr &&& p.mask ≠ p.base ∧ z.rangeZone p.addr = .store := by
  simp [portalOk, baseOk, blockHolds, and_assoc]

end Sys2Proof.Machine

namespace Sys2Proof.Proofs
open Sys2Proof.Machine

/-- RANGE-SET's part of O43. -/
theorem rangeSet_writes (tag : Nat) (s : State) (htake : s.canTake = true) (a : RangeArgs) (z : RangeZone) (hindex : a.index ≤ 31)
    (hzone : rangeZoneOf a.zone = some z) (hpeer : a.peer = true → z = .headoffice) (hclaim : a.claim = true → z = .payment)
    (hmask : maskOk a.mask = true) (hbase : a.base &&& a.mask = a.base) :
    ((∀ j, j ≤ 31 → j ≠ a.index → (a.claim = true → (s.zfw.range j).claim = false) ∧ (a.peer = true → (s.zfw.range j).peer = false)) →
      s.xce.session.state = .idle →
      exec (.rangeSet tag (some a)) s = .next ({ s with zfw := { s.zfw with
        ranges := s.zfw.ranges.setIfInBounds a.index ⟨a.base, a.mask, a.enable, z, a.peer, a.claim⟩ } }.addReply tag .request
          (.ok (.range (s.zfw.range a.index) ⟨a.base, a.mask, a.enable, z, a.peer, a.claim⟩) []))) ∧
    (∀ j, a.claim = true → j ≤ 31 → j ≠ a.index → (s.zfw.range j).claim = true →
      (∀ k, k ≤ 31 → (s.zfw.range k).claim = true → k = j) →
      exec (.rangeSet tag (some a)) s = .next (s.addReply tag .request (.refused .claimHeld (.index j)))) := by
  have hshape : (maskOk a.mask && baseOk a.base a.mask) = true := by simp [hmask, baseOk, hbase]
  refine ⟨fun hfree hidle => ?_, fun j hc hj hne hheld hone => ?_⟩
  · have hcl : (if a.claim = true then otherHolding (·.claim) a.index s.zfw else none) = none := by
      split
      · next hc => exact otherHolding_eq_none fun j hj hne => (hfree j hj hne).1 hc
      · rfl
    have hpe : (if a.peer = true then otherHolding (·.peer) a.index s.zfw else none) = none := by
      split
      · next hp => exact otherHolding_eq_none fun j hj hne => (hfree j hj hne).2 hp
      · rfl
    have hr : rangeRefusal a.index ⟨a.base, a.mask, a.enable, z, a.peer, a.claim⟩ s = none := by
      simp [rangeRefusal, hshape, hcl, hpe, State.exchangeOpen, hidle]
    exact next_taken (f := withBody (some a) rangeSet) rfl htake (rangeSet_fields hindex hzone hpeer hclaim hr)
  · have hr : rangeRefusal a.index ⟨a.base, a.mask, a.enable, z, a.peer, a.claim⟩ s = some (.refused .claimHeld (.index j)) := by
      simp [rangeRefusal, hshape, hc, otherHolding_eq_some (f := (·.claim)) hj hne hheld hone]
    exact next_taken (f := withBody (some a) rangeSet) rfl htake (rangeSet_fields hindex hzone hpeer hclaim hr)

/-- Settles O43, request by request. -/
theorem routingTablesAreWrittenEntryByEntry : Obligations.RoutingTablesAreWrittenEntryByEntry := by
  intro tag s htake
  refine ⟨fun a z hi hz hp hc hm hb => rangeSet_writes tag s htake a z hi hz hp hc hm hb, fun i hi => ⟨fun hheld => ?_, fun hfree => ?_⟩,
    fun a src dst v hsrc hdst hval => ⟨fun hbad => ?_, fun hfixed hpay => ?_⟩, fun a n hn => ?_,
    fun a src dst p i b c hsrc hdst hp hi hb hc hfrom hto => ?_, ?_, fun p hmask hbase haddr hzone => ?_, fun p hbad => ?_⟩
  · refine next_taken (f := withBody (some i) rangeClear) rfl htake ?_
    simp [withBody, rangeClear, Nat.not_lt.mpr hi, hheld.1, State.exchangeOpen, hheld.2, Reply.refuse]
  · have hno : ((s.zfw.range i).peer && s.exchangeOpen) = false := by
      rcases hfree with h | h
      · rw [h, Bool.false_and]
      · simp [State.exchangeOpen, h]
    refine next_taken (f := withBody (some i) rangeClear) rfl htake ?_
    simp only [withBody, rangeClear, if_neg (Nat.not_lt.mpr hi), hno, Bool.false_eq_true, if_false]
    rfl
  · have hrefuse : (fixedCell src dst || (v == .paymentOnly && !paymentCell src dst)) = true := by
      rcases hbad with h | ⟨rfl, h1, h2⟩
      · rw [h, Bool.true_or]
      · have : paymentCell src dst = false := by
          rw [← Bool.not_eq_true]
          simpa [paymentCell] using ⟨fun h h' => h1 ⟨h, h'⟩, fun h h' => h2 ⟨h, h'⟩⟩
        simp [this]
    refine next_taken (f := withBody (some a) policySet) rfl htake ?_
    simp only [withBody, policySet, hsrc, hdst, hval, hrefuse, if_true]
    rfl
  · have hallow : (fixedCell src dst || (v == .paymentOnly && !paymentCell src dst)) = false := by
      rw [hfixed, Bool.false_or]
      by_cases hv : v = .paymentOnly
      · have : paymentCell src dst = true := by simpa [paymentCell] using hpay hv
        simp [this]
      · simp [hv]
    have hrun : withBody (some a) policySet s =
        ({ s with zfw := { s.zfw with policy := tset s.zfw.policy (7 * src.index + dst.index) v } }, .ok (.policy (s.zfw.cell src dst) v) []) := by
      simp only [withBody, policySet, hsrc, hdst, hval, hallow, Bool.false_eq_true, if_false]
    have hblocked : src ≠ .blocked := fun h => by simp [fixedCell, h] at hfixed
    have hcell := cell_tset (z := s.zfw) (dst := dst) (v := v) hblocked
    exact ⟨_, next_taken (f := withBody (some a) policySet) rfl htake hrun, rfl, (hcell src dst).trans (if_pos ⟨rfl, rfl⟩),
      fun x y hne => (hcell x y).trans (if_neg hne)⟩
  · intro fit p
    have hp : profileOf a = p := rfl
    have hnotes : (if profileClamped a then [Note.clamped] else []) =
        if p = (⟨a.ctrl, a.store, a.exch, a.guest⟩ : Profile) then [] else [.clamped] := by
      by_cases h : p = (⟨a.ctrl, a.store, a.exch, a.guest⟩ : Profile)
      · rw [if_pos h, if_neg (by simp [profileClamped, hp, h])]
      · rw [if_neg h, if_pos (by simp [profileClamped, hp, h])]
    refine next_taken (f := withBody (some a) profileSet) rfl htake ?_
    rw [withBody, profileSet, hn, hnotes, hp]
    cases n <;> rfl
  · obtain ⟨k, hrow⟩ := hintRow_isSome hfrom hto
    have hrun : withBody (some a) hintSet s = ({ s with zfw := { s.zfw with hints := tset s.zfw.hints k ⟨p, i, b, c⟩ } },
        .ok (.hint (tget s.zfw.hints k HintRow.cold) ⟨p, i, b, c⟩) []) := by
      simp [withBody, hintSet, hintIndexOf, hintRowOf, hsrc, hdst, hp, hi, hb, hc, hrow]
    refine ⟨_, next_taken (f := withBody (some a) hintSet) rfl htake hrun, rfl, fun port hnone => ?_, fun e lo hi hhead hle => ?_,
      fun x y port hne => classOf_tset_ne (z := s.zfw) hrow port hne⟩
    · refine (classOf_tset (z := s.zfw) hrow port).trans ?_
      rw [kindOf_none hnone]
      rfl
    · refine (classOf_tset (z := s.zfw) hrow (some lo)).trans ?_
      rw [kindOf_head hhead hle]
      cases e <;> rfl
  · exact next_taken (f := withBody (some none) portalSet) rfl htake rfl
  · have hok : portalOk p s.zfw = true := (portalOk_iff p s.zfw).mpr ⟨hmask, hbase, haddr, hzone⟩
    exact next_taken (f := withBody (some (some p)) portalSet) rfl htake (by simp [withBody, portalSet, hok])
  · have hno : portalOk p s.zfw = false := by
      rw [← Bool.not_eq_true, portalOk_iff]
      rintro ⟨h1, h2, h3, h4⟩
      rcases hbad with h | h | h | h
      · rw [h1] at h
        exact absurd h nofun
      · exact h h2
      · exact h3 h
      · exact h h4
    exact next_taken (f := withBody (some (some p)) portalSet) rfl htake (by simp [withBody, portalSet, hno, Reply.refuse])

/-- Settles O44, by what the entry asks for. -/
theorem kindSetWritesOneEntry : Obligations.KindSetWritesOneEntry := by
  intro tag a s htake
  have hexec {t : State} {r : Reply} (h : kindSet a s = (t, r)) : exec (.kindSet tag (some a)) s = .next (t.addReply tag .request r) :=
    next_taken (f := withBody (some a) kindSet) rfl htake h
  refine ⟨fun hbad => hexec ?_, fun k t hi he hl hh hk hlt => hexec ?_, fun k t hi he hh hk hle => hexec ?_, fun hi he => hexec ?_⟩
  · by_cases hi : 7 < a.index
    · simp [kindSet, hi, Reply.refuse]
    · obtain ⟨k, he, hk⟩ := hbad.resolve_left hi
      have hentry : kindEntryOf a.entry = .error .badField := by
        rw [he]
        cases hkind : trafficKindOf k.kind with
        | none => simp only [kindEntryOf, hkind]
        | some t =>
          have hport : 65535 < k.low ∨ 65535 < k.high := by simpa [hkind] using hk
          simp only [kindEntryOf, hkind, if_pos hport]
      simp [kindSet, hi, hentry, Reply.refuse]
  · have hentry : kindEntryOf a.entry = .error .badRange := by
      simp only [kindEntryOf, he, hk, if_neg (show ¬(65535 < k.low ∨ 65535 < k.high) by omega), if_pos hlt]
    simp [kindSet, Nat.not_lt.mpr hi, hentry, Reply.refuse]
  · have hentry : kindEntryOf a.entry = .ok (some ⟨k.low, k.high, t⟩) := by
      simp only [kindEntryOf, he, hk, if_neg (show ¬(65535 < k.low ∨ 65535 < k.high) by omega), if_neg (Nat.not_lt.mpr hle)]
    simp [kindSet, Nat.not_lt.mpr hi, hentry, tset]
  · simp [kindSet, Nat.not_lt.mpr hi, kindEntryOf, he, tset]

end Sys2Proof.Proofs
end

section
/-! Traffic: where a frame goes, what leaves by the branch ports, and the PAY queue's drops (R118 to R126, R133, R147, R149). -/

namespace Sys2Proof.Machine

variable {s : State}

/-! ### Frames that the Zone Forwarder takes (R118, R120) -/

theorem next_frame {port : Port} {f : TrafficFrame} (mem : MemFaults) (hrun : s.power = .running) :
    exec (.frameForward port f mem) s = .next (frameArrives port f mem s) :=
  next_running (f := frameArrives port f mem) rfl hrun

theorem exchangeOf_ne_wan {port : Port} (f : TrafficFrame) (z : Forwarder) (h : port ≠ .wan) : exchangeOf f port z = none := if_neg h

theorem exchangeOf_undecoded {f : TrafficFrame} (port : Port) (z : Forwarder) (h : packetOf f = none) : exchangeOf f port z = none := by
  unfold exchangeOf
  rw [h]
  exact ite_self none

theorem frameArrives_forward {port : Port} {f : TrafficFrame} (mem : MemFaults) (hto : f.toPart = true)
    (hlane : ¬(port = .till ∧ f.frameType = laneType)) (hex : exchangeOf f port s.zfw = none) :
    frameArrives port f mem s = forwardFrame f port s := by
  simp only [frameArrives, hto, Bool.true_eq_false, if_false, if_neg hlane, hex]

theorem forwardFrame_undecoded {f : TrafficFrame} (port : Port) (h : packetOf f = none) :
    forwardFrame f port s = s.onCounts (·.unroutable port) := by
  simp only [forwardFrame, h]

theorem forwardFrame_spoofed {f : TrafficFrame} {port : Port} {p : Packet} (h : packetOf f = some p) (httl : 1 < p.ttl)
    (hsrc : sourceZone port p.src s.zfw = none) : forwardFrame f port s = dropSpoofed port p.src s := by
  simp only [forwardFrame, h, if_neg (Nat.not_le.mpr httl), hsrc]

theorem forwardFrame_judged {f : TrafficFrame} {port : Port} {p : Packet} {z : Zone} (h : packetOf f = some p) (httl : 1 < p.ttl)
    (hsrc : sourceZone port p.src s.zfw = some z) (hz : z ≠ .blocked) : forwardFrame f port s = judgeFrameZones f port z p s := by
  simp only [forwardFrame, h, if_neg (Nat.not_le.mpr httl), hsrc]

theorem sourceZone_lan_wan {p : Packet} {r : RangeEntry} (h : s.zfw.bestMatch p.src = some r) (hr : r.zone = .headoffice ∨ r.zone = .payment) :
    sourceZone .lan p.src s.zfw = none := by
  unfold sourceZone
  rcases hr with hr | hr <;> simp [h, hr]

theorem sourceZone_lan_branch {p : Packet} {src : RangeZone} (hbest : ∀ x, s.zfw.bestMatch p.src = some x → x.zone = src)
    (hnone : s.zfw.bestMatch p.src = none → src = .store) (hsrc : src = .store ∨ src = .till) :
    sourceZone .lan p.src s.zfw = some src.zone := by
  cases h : s.zfw.bestMatch p.src with
  | none => simp [sourceZone, h, hnone h, RangeZone.zone]
  | some r =>
    have hr := hbest r h
    rcases hsrc with rfl | rfl <;> simp [sourceZone, h, hr, RangeZone.zone]

/-! ### Placing a frame (R121, R125, R126, R147) -/

/-- A frame that is not judged under the portal exception, and not bound for the guest block, is judged by its cell alone. -/
theorem judgeFrameZones_cell {f : TrafficFrame} {port : Port} {src : Zone} {p : Packet} (hportal : underPortal port p s.gat = false)
    (hblock : s.gat.inBlock p.dst = false) : judgeFrameZones f port src p s =
      if passes src (s.zfw.rangeZone p.dst) p.src p.dst s.zfw then placeFrame f src (s.zfw.rangeZone p.dst) false p s
      else s.onCounts (·.deny src) := by
  simp only [judgeFrameZones, hportal, destZone, hblock, Bool.false_eq_true, if_false]

theorem enqueueEgress_room {port : BranchPort} {src : Zone} {f : EgressFrame} (h : (s.zfw.fifo port).length < 256) :
    enqueueEgress port src f s = State.onCounts (·.forward src) { s with zfw := s.zfw.setFifo port (s.zfw.fifo port ++ [f]) } := if_pos h

theorem enqueueEgress_full {port : BranchPort} {src : Zone} {f : EgressFrame} (h : 256 ≤ (s.zfw.fifo port).length) :
    enqueueEgress port src f s = s.onCounts (·.egressDrop port 1) := if_neg (Nat.not_lt.mpr h)

theorem enqueueClass_room {c : UplinkClass} {f : UplinkFrame} (h : (s.uls.queue c).frames.length < c.capacity) :
    enqueueClass c f s = { s with uls := s.uls.setQueue c { s.uls.queue c with frames := (s.uls.queue c).frames ++ [f] } } :=
  if_pos (decide_eq_true h)

/-- A frame with a class is bound for the WAN, from a zone that is not the guests'. -/
theorem placeFrame_class {f : TrafficFrame} {src dst : Zone} {p : Packet} {c : UplinkClass} (portal : Bool)
    (h : s.zfw.classOf src dst p.port = some c) :
    placeFrame f src dst portal p s = enqueueClass c (p.uplink f.length) (s.onCounts (·.forward src)) := by
  obtain ⟨i, hi, -⟩ := Option.map_eq_some_iff.mp h
  have hplace : placeFrame f src dst portal p s = placeUplink src dst f.length p s := by
    rcases hintRow_zones hi with ⟨rfl, rfl⟩ | ⟨rfl, rfl⟩ | ⟨rfl, rfl⟩ | ⟨rfl, rfl⟩ | ⟨rfl, rfl⟩ | ⟨rfl, rfl⟩ <;> rfl
  rw [hplace, placeUplink, h]

theorem placeFrame_guest (f : TrafficFrame) (dst : Zone) (portal : Bool) (p : Packet) :
    placeFrame f .guest dst portal p s = placeGuest f.srcHw portal f.length dst p s := if_pos rfl

/-! ### What leaves by the branch ports (R126) -/

theorem portReady_fifo {p : BranchPort} (found : Bool) (h : ¬(p = .till ∧ s.tsu.outbox ≠ [])) : portReady p found s = leaveFifo p found s := by
  unfold portReady
  split
  · next m rest hout => exact absurd ⟨rfl, by rw [hout]; exact List.cons_ne_nil _ _⟩ h
  · rfl

/-! ### Guest frames (R123, R136 to R141) -/

theorem judgeGuest_frame (portal : Bool) (len : Nat) (g : GuestSession) :
    (judgeGuest portal len g s).1 = { s with gat := (judgeGuest portal len g s).1.gat, msp := (judgeGuest portal len g s).1.msp } := by
  unfold judgeGuest
  split
  · rfl
  · dsimp only
    split <;> rfl

theorem guestFor_frame (hw : HwAddr) :
    (guestFor hw s).1 = { s with gat := (guestFor hw s).1.gat, msp := (guestFor hw s).1.msp } := by
  unfold guestFor
  split
  · split <;> rfl
  · split
    · unfold guestFullDrop
      dsimp only
      split <;> rfl
    · next u hu =>
      rcases makeRoom_cases hu with ⟨-, rfl⟩ | ⟨x, -, rfl⟩ <;> rfl

/-- A frame from the guest port is judged in the Guest Access Table alone, and forwarded only while guest service is open (R139). -/
theorem guestOutbound_frame (hw : HwAddr) (src : Ipv4) (portal : Bool) (len : Nat) :
    (guestOutbound hw src portal len s).1 =
      { s with gat := (guestOutbound hw src portal len s).1.gat, msp := (guestOutbound hw src portal len s).1.msp } ∧
    ((guestOutbound hw src portal len s).2.isSome → s.gat.isOpen = true) := by
  unfold guestOutbound
  split
  · exact ⟨rfl, nofun⟩
  · next hopen =>
    have hopen : s.gat.isOpen = true := by simpa using hopen
    split
    · exact ⟨rfl, nofun⟩
    · have hfor := guestFor_frame (s := s) hw
      split
      · next u h =>
        rw [h] at hfor
        exact ⟨hfor, nofun⟩
      · next u g h =>
        rw [h] at hfor
        dsimp only at hfor
        have hjudge := judgeGuest_frame (s := u) portal len g
        split
        · next v hv =>
          rw [hv] at hjudge
          exact ⟨hjudge.trans (by rw [hfor]), nofun⟩
        · next v _ mark hv =>
          rw [hv] at hjudge
          refine ⟨?_, fun _ => hopen⟩
          dsimp only at hjudge ⊢
          rw [takeAddress, hjudge, hfor]

end Sys2Proof.Machine

namespace Sys2Proof.Proofs
open Sys2Proof.Machine

/-- What a frame from the guest port may do (R123). -/
def GuestConfined (f : TrafficFrame) (s t : State) : Prop :=
  t.tsu = s.tsu ∧ t.zfw.tillFifo = s.zfw.tillFifo ∧ t.zfw.guestFifo = s.zfw.guestFifo ∧ t.out = s.out ∧
  t.uls.pay = s.uls.pay ∧ t.uls.ctrl = s.uls.ctrl ∧ t.uls.store = s.uls.store ∧ t.uls.exch = s.uls.exch ∧
  (t.zfw.lanFifo ≠ s.zfw.lanFifo → ∃ p q, packetOf f = some p ∧ s.gat.portal = some q ∧ p.dst = q.addr ∧
    s.zfw.rangeZone q.addr = .store ∧ s.gat.isOpen = true ∧ t.zfw.lanFifo = s.zfw.lanFifo ++ [⟨p.forwarded, p.dst, f.length, none⟩]) ∧
  (t.uls.guest.frames ≠ s.uls.guest.frames → ∃ p, packetOf f = some p ∧ s.gat.isOpen = true ∧ destZone p.dst s = .internet ∧
    t.uls.guest.frames = s.uls.guest.frames ++ [⟨.packet p.forwarded, f.length⟩])

/-- A frame that is only counted, and judged in the Guest Access Table, is confined. -/
theorem GuestConfined.of_frame {f : TrafficFrame} {s t : State} {g : GuestTable} {m : MessagePort} {c : ForwardCounts}
    (h : t = { s with gat := g, msp := m, zfw := { s.zfw with counts := c } }) : GuestConfined f s t := by
  rw [h]
  exact ⟨rfl, rfl, rfl, rfl, rfl, rfl, rfl, rfl, fun h => absurd rfl h, fun h => absurd rfl h⟩

/-- A guest frame that has passed is placed on the LAN for the portal, or in the GUEST queue for the internet, or nowhere. -/
theorem guestConfined_placeGuest {f : TrafficFrame} {s : State} {p : Packet} (portal : Bool) (hp : packetOf f = some p)
    (hportal : portal = true → ∃ q, s.gat.portal = some q ∧ p.dst = q.addr ∧ s.zfw.rangeZone q.addr = .store) :
    GuestConfined f s (placeGuest f.srcHw portal f.length (destZone p.dst s) p s) := by
  obtain ⟨hframe, hopen⟩ := guestOutbound_frame (s := s) f.srcHw p.src portal f.length
  unfold placeGuest
  split
  · next u h =>
    rw [h] at hframe
    exact .of_frame (c := s.zfw.counts) hframe
  · next u mark h =>
    rw [h] at hframe hopen
    dsimp only at hframe
    have hserves := hopen rfl
    generalize u.gat = g at hframe
    generalize u.msp = m at hframe
    subst hframe
    split
    · next hport =>
      obtain ⟨q, hq, hdst, hzone⟩ := hportal hport
      unfold enqueueEgress
      split
      · exact ⟨rfl, rfl, rfl, rfl, rfl, rfl, rfl, rfl, fun _ => ⟨p, q, hp, hq, hdst, hzone, hserves, rfl⟩, fun h => absurd rfl h⟩
      · exact .of_frame rfl
    · split
      · next hinternet =>
        unfold enqueueGuest
        split
        · exact ⟨rfl, rfl, rfl, rfl, rfl, rfl, rfl, rfl, fun h => absurd rfl h, fun h => absurd rfl h⟩
        · unfold enqueueClass
          split
          · exact ⟨rfl, rfl, rfl, rfl, rfl, rfl, rfl, rfl, fun h => absurd rfl h, fun _ => ⟨p, hp, hserves, hinternet, rfl⟩⟩
          · exact ⟨rfl, rfl, rfl, rfl, rfl, rfl, rfl, rfl, fun h => absurd rfl h, fun h => absurd rfl h⟩
      · exact .of_frame rfl

/-- Settles O46, along the way of a frame from the guest port. -/
theorem guestsReachOnlyThePortalAndTheInternet : Obligations.GuestsReachOnlyThePortalAndTheInternet := by
  intro f mem s
  have hsame : GuestConfined f s s := .of_frame (c := s.zfw.counts) rfl
  suffices h : GuestConfined f s (whileRunning (frameArrives .guest f mem) s) from ⟨_, rfl, h⟩
  by_cases hrun : s.power = .running
  · rw [whileRunning_on _ hrun]
    by_cases hto : f.toPart = false
    · rw [frameArrives, if_pos hto]
      exact hsame
    · rw [frameArrives_forward mem (by simpa using hto) (by simp) (exchangeOf_ne_wan f _ (by simp))]
      cases hp : packetOf f with
      | none =>
        rw [forwardFrame_undecoded .guest hp]
        exact .of_frame rfl
      | some p =>
        by_cases httl : p.ttl ≤ 1
        · simp only [forwardFrame, hp, if_pos httl]
          exact .of_frame rfl
        · rw [forwardFrame_judged hp (Nat.not_le.mp httl) (z := .guest) rfl nofun, judgeFrameZones]
          by_cases hpass : (if underPortal .guest p s.gat = true then portalStands s
              else passes .guest (destZone p.dst s) p.src p.dst s.zfw) = true
          · rw [if_pos hpass, placeFrame_guest]
            refine guestConfined_placeGuest _ hp fun hunder => ?_
            rw [if_pos hunder] at hpass
            cases hq : s.gat.portal with
            | none => simp [underPortal, hq] at hunder
            | some q => exact ⟨q, rfl, by simpa [underPortal, hq] using hunder, by simpa [portalStands, hq] using hpass⟩
          · rw [if_neg hpass]
            exact .of_frame rfl
  · rw [whileRunning_off _ hrun]
    exact hsame

/-- Settles O45: a frame on its way in, and the head of a FIFO on its way out. -/
theorem framesAreJudgedPlacedAndSent : Obligations.FramesAreJudgedPlacedAndSent := by
  refine ⟨fun f mem s hrun => ⟨fun port hto => ?_, fun port hto hp hlane => ?_, fun p r hto hp httl hbest hr => ?_,
    fun p src hto hp httl hlane hbest hnone hsrc hportal hblock => ?_⟩, fun p found s hrun => ⟨fun m rest hp hout => ?_,
    fun hno hfifo => ?_, fun f rest hno hfifo => ?_⟩⟩
  · rw [next_frame mem hrun, frameArrives, if_pos hto]
  · rw [next_frame mem hrun, frameArrives_forward mem hto hlane (exchangeOf_undecoded port _ hp), forwardFrame_undecoded port hp]
    rfl
  · have hexec := (next_frame (s := s) (port := .lan) (f := f) mem hrun).trans (congrArg _ ((frameArrives_forward mem hto (by simp)
      (exchangeOf_ne_wan f _ (by simp))).trans (forwardFrame_spoofed hp httl (sourceZone_lan_wan hbest hr))))
    refine ⟨_, hexec, ?_⟩
    unfold dropSpoofed
    dsimp only
    split
    · next hdue =>
      refine ⟨rfl, rfl, fun _ x hx => ?_⟩
      simpa [Forwarder.lastSpoof, spoofFaultDue, hx] using hdue
    · exact ⟨rfl, rfl, fun h => absurd rfl h⟩
  · intro z d
    have hz : z ≠ .blocked := by
      rcases hsrc with rfl | rfl <;> exact nofun
    have hguest : z ≠ .guest := by
      rcases hsrc with rfl | rfl <;> exact nofun
    have hexec : exec (.frameForward .lan f mem) s = .next (if passes z d p.src p.dst s.zfw then placeFrame f z d false p s
        else s.onCounts (·.deny z)) :=
      (next_frame (s := s) (port := .lan) (f := f) mem hrun).trans (congrArg _ ((frameArrives_forward mem hto (by simp)
        (exchangeOf_ne_wan f _ (by simp))).trans ((forwardFrame_judged hp httl (sourceZone_lan_branch hbest hnone hsrc) hz).trans
          (judgeFrameZones_cell hportal hblock))))
    have htill (hd : d = .till) : placeFrame f z d false p s = enqueueEgress .till z (p.egress f.length none) s := by
      unfold placeFrame
      rw [if_neg hguest, hd]
    refine ⟨fun hdeny => ?_, fun hpass hd hroom => ?_, fun hpass hd hfull => ?_, fun c hpass hclass hroom => ?_⟩
    · rw [hexec, hdeny]
      rfl
    · rw [hexec, if_pos hpass, htill hd, enqueueEgress_room (port := .till) hroom]
      rfl
    · rw [hexec, if_pos hpass, htill hd, enqueueEgress_full (port := .till) hfull]
      rfl
    · rw [hexec, if_pos hpass, placeFrame_class false hclass, enqueueClass_room (s := s.onCounts (·.forward z)) hroom]
      rfl
  · subst hp
    refine (next_running (f := portReady .till found) rfl hrun).trans ?_
    simp only [portReady, hout]
  · rw [next_running (c := .egressPortReady p found) (f := portReady p found) rfl hrun, portReady_fifo found hno]
    simp only [leaveFifo, hfifo]
  · have hexec : exec (.egressPortReady p found) s = .next (if found = true ∨ p = .guest then
        sendEgress p f { s with zfw := s.zfw.setFifo p rest } else
          State.onCounts (·.egressDrop p 1) { s with zfw := s.zfw.setFifo p rest }) := by
      rw [next_running (c := .egressPortReady p found) (f := portReady p found) rfl hrun, portReady_fifo found hno]
      simp only [leaveFifo, hfifo]
    refine ⟨_, hexec, ?_⟩
    by_cases hsent : found = true ∨ p = .guest
    · rw [if_pos hsent]
      refine ⟨?_, fun _ => ?_, fun hf hp => absurd hsent (by simp [hf, hp])⟩
      · cases p <;> rfl
      · cases p <;> exact ⟨rfl, rfl⟩
    · rw [if_neg hsent]
      refine ⟨?_, fun h => absurd h hsent, fun _ hp => ?_⟩
      · cases p <;> rfl
      · cases p
        case guest => exact absurd rfl hp
        all_goals exact ⟨rfl, rfl⟩

/-- Settles O49: the first drop, those that follow, and the interval's end. -/
theorem payDropsAreReportedByTheInterval : Obligations.PayDropsAreReportedByTheInterval := by
  intro s hrun
  refine ⟨fun f hfull => ?_, fun i hi hdue => ?_⟩
  · intro n
    have hdrop : enqueueClass .pay f s = payDropped { s with uls := { s.uls with pay := { s.uls.pay with drops := n } } } := by
      unfold enqueueClass
      rw [if_neg (by simp [Uplink.hasRoom, Uplink.queue, UplinkClass.capacity, hfull])]
      exact if_pos rfl
    refine ⟨fun hnone => ⟨_, rfl, ?_⟩, fun i hi => ?_⟩
    · rw [hdrop]
      simp only [payDropped, hnone]
      exact ⟨rfl, rfl, rfl⟩
    · rw [hdrop]
      simp only [payDropped, hi]
      rfl
  · have hexec : exec .payDropIntervalEnd s = .next (endPayDropInterval i s) := by
      refine (next_running (f := payDropEnds) rfl hrun).trans ?_
      simp only [payDropEnds, hi, if_pos hdue]
    refine ⟨fun hzero => ?_, fun hpos => ⟨_, hexec, ?_⟩⟩
    · rw [hexec, endPayDropInterval, if_neg (by omega)]
    · rw [endPayDropInterval, if_pos hpos]
      exact ⟨rfl, rfl, rfl⟩

end Sys2Proof.Proofs
end

section
/-! Guest sessions: their requests and their timed events (R135, R137, R138, R142 to R144). -/

namespace Sys2Proof.Machine

variable {s : State}

/-! ### One session written (R135) -/

theorem guest_putGuest_ne {h : HwAddr} (g : GuestSession) (hne : h ≠ g.hw) : (s.putGuest g).guest h = s.guest h :=
  findKey_putKey_ne GuestSession.key g s.gat.sessions fun heq => hne (BitVec.eq_of_toNat_eq heq)

theorem guest_putGuest_same {h : HwAddr} {g g' : GuestSession} (hg : s.guest h = some g) (hk : g'.hw = g.hw) :
    (s.putGuest g').guest h = some g' := by
  rw [← guest_hw hg, ← hk]
  exact putGuest_guest s g'

theorem guest_dropGuest_ne {h hw : HwAddr} (hne : h ≠ hw) : (s.dropGuest hw).guest h = s.guest h :=
  findKey_dropKey_ne GuestSession.key s.gat.sessions fun heq => hne (BitVec.eq_of_toNat_eq heq)

theorem guest_mem {h : HwAddr} {g : GuestSession} (hg : s.guest h = some g) : h ∈ s.gat.sessions.map (·.hw) :=
  List.mem_map.mpr ⟨g, List.mem_of_find?_eq_some hg, guest_hw hg⟩

/-! ### The timed events, session by session (R142) -/

/-- A session after its idle event, taken if due. -/
def GuestSession.afterIdle (now limit : Nat) (g : GuestSession) : GuestSession :=
  if g.idleDue now limit then { g with state := .idle } else g

/-- A session after its expiry event, taken if due. -/
def GuestSession.afterExpiry (now : Nat) (g : GuestSession) : GuestSession :=
  if g.expiryDue now then { g with state := .expired, quota := 0, cooled := false } else g

/-- A session after its cooldown-end event, taken if due. -/
def GuestSession.afterCooldown (now : Nat) (g : GuestSession) : GuestSession := if g.cooldownDue now then { g with cooled := true } else g

/-- A step of one session: the other sessions stand, and nothing but the table's sessions and its full-report flag is written. -/
structure SessionStep (step : State → State) (hw : HwAddr) (judged : GuestSession → GuestSession) (s : State) : Prop where
  frame : ∃ ss full, step s = { s with gat := { s.gat with sessions := ss, fullArmed := full } }
  own : (step s).guest hw = (s.guest hw).map judged
  others : ∀ h, h ≠ hw → (step s).guest h = s.guest h

theorem SessionStep.comp {f g : State → State} {hw : HwAddr} {p q : GuestSession → GuestSession} (hf : SessionStep f hw p s)
    (hg : SessionStep g hw q (f s)) : SessionStep (fun s => g (f s)) hw (fun x => q (p x)) s := by
  obtain ⟨ss, full, hfs⟩ := hf.frame
  obtain ⟨ss', full', hgs⟩ := hg.frame
  refine ⟨⟨ss', full', ?_⟩, ?_, fun h hne => (hg.others h hne).trans (hf.others h hne)⟩
  · rw [hgs, hfs]
  · rw [hg.own, hf.own, Option.map_map]
    rfl

/-- An event that is taken writes its session. -/
theorem SessionStep.of_event {step : State → State} {hw : HwAddr} {due : GuestSession → Bool} {f : GuestSession → GuestSession}
    (hk : ∀ g, (f g).hw = g.hw) (hnone : s.guest hw = none → step s = s)
    (hoff : ∀ g, s.guest hw = some g → due g = false → step s = s)
    (hon : ∀ g, s.guest hw = some g → due g = true → ∃ full, step s = { s.putGuest (f g) with gat := { (s.putGuest (f g)).gat with fullArmed := full } }) :
    SessionStep step hw (fun g => if due g then f g else g) s := by
  have hstill (h : step s = s) (hown : s.guest hw = (s.guest hw).map fun g => if due g then f g else g) :
      SessionStep step hw (fun g => if due g then f g else g) s :=
    ⟨⟨s.gat.sessions, s.gat.fullArmed, h⟩, by rw [h]; exact hown, fun _ _ => by rw [h]⟩
  cases hg : s.guest hw with
  | none => exact hstill (hnone hg) (by simp [hg])
  | some g =>
    cases hd : due g with
    | false => exact hstill (hoff g hg hd) (by simp [hg, hd])
    | true =>
      obtain ⟨full, h⟩ := hon g hg hd
      refine ⟨⟨_, full, h⟩, ?_, fun k hne => ?_⟩
      · rw [h, hg, Option.map_some, if_pos hd]
        exact guest_putGuest_same hg (hk g)
      · rw [h]
        exact guest_putGuest_ne (s := s) (f g) (by rw [hk, guest_hw hg]; exact hne)

theorem takeIdle_step (hw : HwAddr) (s : State) : SessionStep (takeIdle hw) hw (·.afterIdle s.now s.gat.idleLimit) s :=
  .of_event (due := fun g => g.idleDue s.now s.gat.idleLimit) (f := fun g => { g with state := .idle }) (fun _ => rfl)
    (fun h => by simp [takeIdle, h]) (fun g h hd => by simp [takeIdle, h, hd])
    fun g h hd => ⟨true, by simp [takeIdle, h, hd, armGuestFull]⟩

theorem takeExpiry_step (hw : HwAddr) (s : State) : SessionStep (takeExpiry hw) hw (·.afterExpiry s.now) s :=
  .of_event (due := fun g => g.expiryDue s.now) (f := fun g => { g with state := .expired, quota := 0, cooled := false }) (fun _ => rfl)
    (fun h => by simp [takeExpiry, h]) (fun g h hd => by simp [takeExpiry, h, hd])
    fun g h hd => ⟨s.gat.fullArmed, by simp [takeExpiry, h, hd, State.putGuest]⟩

theorem takeCooldownEnd_step (hw : HwAddr) (s : State) : SessionStep (takeCooldownEnd hw) hw (·.afterCooldown s.now) s :=
  .of_event (due := fun g => g.cooldownDue s.now) (f := fun g => { g with cooled := true }) (fun _ => rfl)
    (fun h => by simp [takeCooldownEnd, h]) (fun g h hd => by simp [takeCooldownEnd, h, hd])
    fun g h hd => ⟨true, by simp [takeCooldownEnd, h, hd, armGuestFull]⟩

/-- Sessions judged one after another: only the table is written, and each session that was judged stands as its judgement left it. -/
theorem sessions_judged {step : HwAddr → State → State} {judged : Nat → Nat → GuestSession → GuestSession}
    (hstep : ∀ hw s, SessionStep (step hw) hw (judged s.now s.gat.idleLimit) s) (hws : List HwAddr) (s : State) :
    (∃ ss full, hws.foldl (fun s hw => step hw s) s = { s with gat := { s.gat with sessions := ss, fullArmed := full } }) ∧
    (∀ hw ∈ hws, ∀ g, (hws.foldl (fun s hw => step hw s) s).guest hw = some g → ∃ x, g = judged s.now s.gat.idleLimit x) ∧
    ∀ hw, hw ∉ hws → (hws.foldl (fun s hw => step hw s) s).guest hw = s.guest hw := by
  induction hws generalizing s with
  | nil => exact ⟨⟨s.gat.sessions, s.gat.fullArmed, rfl⟩, fun hw h => absurd h List.not_mem_nil, fun _ _ => rfl⟩
  | cons k hws ih =>
    obtain ⟨⟨ss, full, hframe⟩, hown, hothers⟩ := hstep k s
    obtain ⟨⟨ss', full', hframe'⟩, hin, hout⟩ := ih (step k s)
    rw [List.foldl_cons]
    refine ⟨⟨ss', full', ?_⟩, fun hw hmem g hg => ?_, fun hw hmem => ?_⟩
    · rw [hframe', hframe]
    · by_cases hrest : hw ∈ hws
      · have := hin hw hrest g hg
        rwa [hframe] at this
      · obtain rfl : hw = k := (List.mem_cons.mp hmem).resolve_right hrest
        rw [hout hw hrest, hown] at hg
        obtain ⟨x, -, rfl⟩ := Option.map_eq_some_iff.mp hg
        exact ⟨x, rfl⟩
    · obtain ⟨hne, hrest⟩ := not_or.mp (mt List.mem_cons.mpr hmem)
      exact (hout hw hrest).trans (hothers hw hne)

/-- Every session of the table judged. -/
theorem allSessions_judged {step : HwAddr → State → State} {judged : Nat → Nat → GuestSession → GuestSession}
    (hstep : ∀ hw s, SessionStep (step hw) hw (judged s.now s.gat.idleLimit) s) (s : State) :
    let t := (s.gat.sessions.map (·.hw)).foldl (fun s hw => step hw s) s
    (∃ ss full, t = { s with gat := { s.gat with sessions := ss, fullArmed := full } }) ∧
    ∀ hw g, t.guest hw = some g → ∃ x, g = judged s.now s.gat.idleLimit x := by
  obtain ⟨hframe, hin, hout⟩ := sessions_judged hstep (s.gat.sessions.map (·.hw)) s
  refine ⟨hframe, fun hw g hg => ?_⟩
  by_cases hmem : hw ∈ s.gat.sessions.map (·.hw)
  · exact hin hw hmem g hg
  · rw [hout hw hmem] at hg
    exact absurd (guest_mem hg) hmem

theorem GuestSession.idleDue_afterIdle (now limit : Nat) (g : GuestSession) : (g.afterIdle now limit).idleDue now limit = false := by
  unfold afterIdle
  split
  · rfl
  · next h => exact Bool.eq_false_iff.mpr h

/-- After every session's idle event no admitted session has been silent for the idle limit (R138). -/
theorem takeAllIdle_spec (s : State) :
    (∃ ss full, takeAllIdle s = { s with gat := { s.gat with sessions := ss, fullArmed := full } }) ∧
    ∀ hw g, (takeAllIdle s).guest hw = some g → g.state = .admitted → s.now < g.lastFrame + s.gat.idleLimit := by
  obtain ⟨hframe, hall⟩ := allSessions_judged (judged := fun now limit g => g.afterIdle now limit) takeIdle_step s
  refine ⟨hframe, fun hw g hg hadmitted => ?_⟩
  obtain ⟨x, rfl⟩ := hall hw g hg
  have := x.idleDue_afterIdle s.now s.gat.idleLimit
  simpa [GuestSession.idleDue, hadmitted] using this

/-! ### The requests (R138, R143, R144) -/

theorem setService_spec (o : Bool) (s : State) : ∃ k, setService o s = { s with
    gat := { s.gat with isOpen := o }
    zfw := { s.zfw with
      guestFifo := if s.gat.isOpen = true ∧ o = false then [] else s.zfw.guestFifo, counts := { s.zfw.counts with dropGuest := k } } } := by
  unfold setService
  by_cases h : s.gat.isOpen = true ∧ o = false
  · exact ⟨addCap max32 s.zfw.counts.dropGuest s.zfw.guestFifo.length, by rw [if_pos h, if_pos (by simp [h])]; rfl⟩
  · exact ⟨s.zfw.counts.dropGuest, by rw [if_neg h, if_neg (by simpa using h)]⟩

theorem serviceOf_eq {o : Nat} (h : o = 0 ∨ o = 1) : serviceOf o = some (decide (o = 0)) := by
  rcases h with rfl | rfl <;> rfl

end Sys2Proof.Machine

namespace Sys2Proof.Proofs
open Sys2Proof.Machine

/-- GUEST-SERVICE with no idle limit: O47's first clause. -/
theorem guestService_sets (tag : Nat) (s : State) (htake : s.canTake = true) (o : Nat) (ho : o = 0 ∨ o = 1) :
    ∃ t, exec (.guestService tag (some ⟨o, none⟩)) s = .next t ∧
      t = { s with
        gat := { s.gat with isOpen := decide (o = 0) }
        zfw := { s.zfw with guestFifo := t.zfw.guestFifo, counts := { s.zfw.counts with dropGuest := t.zfw.counts.dropGuest } }
        msp := { s.msp with replies := s.msp.replies ++ [⟨tag, .ok .empty [], .request⟩] } } ∧
      t.zfw.guestFifo = (if o = 1 ∧ s.gat.isOpen = true then [] else s.zfw.guestFifo) := by
  obtain ⟨k, hset⟩ := setService_spec (decide (o = 0)) s
  have hrun : withBody (some ⟨o, none⟩) guestService s = (setService (decide (o = 0)) s, .okClamped false) := by
    simp only [withBody, guestService, serviceOf_eq ho]
    rfl
  rw [hset] at hrun
  refine ⟨_, next_taken (f := withBody (some ⟨o, none⟩) guestService) rfl htake hrun, rfl, ?_⟩
  refine if_congr ?_ rfl rfl
  rcases ho with rfl | rfl <;> simp

/-- GUEST-SERVICE with an idle limit: O47's second clause. -/
theorem guestService_limits (tag : Nat) (s : State) (htake : s.canTake = true) (o n : Nat) (ho : o = 0 ∨ o = 1) :
    ∃ t, exec (.guestService tag (some ⟨o, some n⟩)) s = .next t ∧
      t.gat.isOpen = decide (o = 0) ∧ t.gat.idleLimit = (if n < 60 then 60 else if 3600 < n then 3600 else n) ∧
      (s.guestsOrdered → ∀ hw g, t.guest hw = some g → g.state = .admitted → s.now < g.lastFrame + t.gat.idleLimit) ∧
      t.msp.replies = s.msp.replies ++ [⟨tag, .ok .empty (if n < 60 ∨ 3600 < n then [.clamped] else []), .request⟩] := by
  obtain ⟨k, hset⟩ := setService_spec (decide (o = 0)) s
  have hrun : withBody (some ⟨o, some n⟩) guestService s =
      (takeAllIdle { setService (decide (o = 0)) s with gat := { (setService (decide (o = 0)) s).gat with idleLimit := clamp 60 3600 n } },
        .okClamped (decide (clamp 60 3600 n ≠ n))) := by
    simp only [withBody, guestService, serviceOf_eq ho]
    rfl
  rw [hset] at hrun
  obtain ⟨⟨ss, full, hframe⟩, hjudged⟩ := takeAllIdle_spec { s with
    gat := { s.gat with isOpen := decide (o = 0), idleLimit := clamp 60 3600 n }
    zfw := { s.zfw with
      guestFifo := if s.gat.isOpen = true ∧ decide (o = 0) = false then [] else s.zfw.guestFifo
      counts := { s.zfw.counts with dropGuest := k } } }
  refine ⟨_, next_taken (f := withBody (some ⟨o, some n⟩) guestService) rfl htake hrun, ?_, ?_, fun _ hw g hg hadmitted => ?_, ?_⟩
  · exact congrArg (·.gat.isOpen) hframe
  · exact congrArg (·.gat.idleLimit) hframe
  · have hlimit := congrArg (·.gat.idleLimit) hframe
    have := hjudged hw g hg hadmitted
    dsimp only at hlimit
    rw [← hlimit] at this
    exact this
  · rw [addReply_replies]
    have hreplies := congrArg (·.msp.replies) hframe
    dsimp only at hreplies
    rw [hreplies]
    simp only [Reply.okClamped, clamp_ne_iff, decide_eq_true_eq]

/-- GUEST-ADMIT of a device whose session may be admitted: O47's third clause. -/
theorem guestAdmit_admits (tag : Nat) (s : State) (htake : s.canTake = true) (a : GuestAdmitArgs) (g : GuestSession)
    (hgroup : isGroup a.hw = false) (hquota : a.quota ≤ 4294967295) (hg : s.guest a.hw = some g)
    (hstate : g.state = .pending ∨ g.state = .idle ∨ g.state = .expired) :
    let d := clamp 60 86400 a.duration
    ∃ t, exec (.guestAdmit tag (some a)) s = .next t ∧ t = { s with gat := { s.gat with sessions := t.gat.sessions }, msp := t.msp } ∧
      t.guest a.hw = some (g.entered s.now d a.quota) ∧ (∀ h, h ≠ a.hw → t.guest h = s.guest h) ∧
      t.msp.reports = (if a.quota = 0 then
        queueReport s.now (.guestQuota g.hw g.address 0 (some s.now) (some (s.now + d))) s.msp.reports else s.msp.reports) ∧
      t.msp.replies = s.msp.replies ++ [⟨tag, .ok (.number 4 (s.now + d))
        (if a.duration < 60 ∨ 86400 < a.duration then [.clamped] else []), .request⟩] := by
  intro d
  have hadmit : g.state.admissible = true := by
    rcases hstate with h | h | h <;> rw [h] <;> rfl
  have hrun : withBody (some a) guestAdmit s = (admitGuest d a.quota g s, admitReply a.duration s.now) := by
    have hfields : (isGroup a.hw || decide (max32 < a.quota)) = false := by
      rw [hgroup, Bool.false_or, decide_eq_false_iff_not]
      exact Nat.not_lt.mpr hquota
    simp only [withBody, guestAdmit, hfields, admitDevice, hg, hadmit, Bool.false_eq_true, if_false, if_true]
    rfl
  have hreply : admitReply a.duration s.now =
      .ok (.number 4 (s.now + d)) (if a.duration < 60 ∨ 86400 < a.duration then [.clamped] else []) := by
    simp only [admitReply, clamp_ne_iff, d]
  have hput : (s.putGuest (g.entered s.now d a.quota)).guest a.hw = some (g.entered s.now d a.quota) := guest_putGuest_same hg rfl
  have hself : g.hw = a.hw := guest_hw hg
  have hne (h : HwAddr) (hne : h ≠ a.hw) : (s.putGuest (g.entered s.now d a.quota)).guest h = s.guest h :=
    guest_putGuest_ne (s := s) _ (fun heq => hne (heq.trans hself))
  rw [hreply] at hrun
  refine ⟨_, next_taken (f := withBody (some a) guestAdmit) rfl htake hrun, ?_⟩
  unfold admitGuest
  dsimp only
  by_cases hq : a.quota = 0
  · rw [if_pos hq, if_pos hq]
    exact ⟨rfl, hput, hne, rfl, rfl⟩
  · rw [if_neg hq, if_neg hq]
    exact ⟨rfl, hput, hne, rfl, rfl⟩

/-- Settles O47, request by request and event by event. -/
theorem guestSessionsFollowTheirRequestsAndTimes : Obligations.GuestSessionsFollowTheirRequestsAndTimes := by
  refine ⟨fun tag s htake => ⟨fun o ho => guestService_sets tag s htake o ho, fun o n ho => guestService_limits tag s htake o n ho,
    fun a g hgroup hquota hg => ⟨fun hstate => ?_, guestAdmit_admits tag s htake a g hgroup hquota hg⟩,
    fun hw hgroup => ⟨fun g hg => ?_, fun hnone hroom => ?_, fun hnone => ?_, fun g hg => ?_⟩⟩,
    fun hw g s hrun hg => ⟨fun hstate hdue => ?_, fun hstate => ?_, fun x hstate hx hdue => ?_, fun hstate => ?_,
      fun x hstate hcool hx hdue => ?_⟩⟩
  · have hadmit : g.state.admissible = false := by
      rcases hstate with h | h | h <;> rw [h] <;> rfl
    refine next_taken (f := withBody (some a) guestAdmit) rfl htake ?_
    simp [withBody, guestAdmit, hgroup, max32, Nat.not_lt.mpr hquota, admitDevice, hg, hadmit, Reply.refuse]
  · have hrun : withBody (some hw) guestBar s = (s.putGuest { g with state := .barred }, .okay) := by
      simp only [withBody, guestBar, hgroup, hg, Bool.false_eq_true, if_false]
    exact ⟨_, next_taken (f := withBody (some hw) guestBar) rfl htake hrun, guest_putGuest_same (s := s) hg rfl,
      fun h hne => guest_putGuest_ne (s := s) _ (by rw [← guest_hw hg] at hne; exact hne), rfl⟩
  · have hrun : withBody (some hw) guestBar s = (s.putGuest { GuestSession.fresh hw s.now with state := .barred }, .okay) := by
      simp only [withBody, guestBar, hgroup, hnone, makeRoom, if_pos hroom, Bool.false_eq_true, if_false]
    exact ⟨_, next_taken (f := withBody (some hw) guestBar) rfl htake hrun, putGuest_guest s { GuestSession.fresh hw s.now with state := .barred },
      fun h hne => guest_putGuest_ne (s := s) { GuestSession.fresh hw s.now with state := .barred } hne⟩
  · refine next_taken (f := withBody (some hw) guestEnd) rfl htake ?_
    simp only [withBody, guestEnd, hgroup, hnone, Bool.false_eq_true, if_false]
    rfl
  · have hrun : withBody (some hw) guestEnd s = (armGuestFull (s.dropGuest hw), .okay) := by
      simp only [withBody, guestEnd, hgroup, hg, Bool.false_eq_true, if_false]
    exact ⟨_, next_taken (f := withBody (some hw) guestEnd) rfl htake hrun, findKey_dropKey_same GuestSession.key hw.toNat s.gat.sessions, rfl,
      fun h hne => guest_dropGuest_ne (s := s) hne, rfl⟩
  · have hd : g.idleDue s.now s.gat.idleLimit = true := by simp [GuestSession.idleDue, hstate, hdue]
    have hstep : takeIdle hw s = armGuestFull (s.putGuest { g with state := .idle }) := by simp only [takeIdle, hg, if_pos hd]
    have hown := (takeIdle_step hw s).own
    rw [hg, Option.map_some, GuestSession.afterIdle, if_pos hd] at hown
    exact ⟨_, next_running (f := takeIdle hw) rfl hrun, by rw [hstep]; rfl, hown, (takeIdle_step hw s).others⟩
  · have hd : g.idleDue s.now s.gat.idleLimit = false := by simp [GuestSession.idleDue, hstate]
    refine (next_running (f := takeIdle hw) rfl hrun).trans (congrArg _ ?_)
    simp only [takeIdle, hg, hd, Bool.false_eq_true, if_false]
  · have hd : g.expiryDue s.now = true := by
      rcases hstate with h | h | h <;> simp [GuestSession.expiryDue, h, hx, hdue]
    have hstep : takeExpiry hw s = s.putGuest { g with state := .expired, quota := 0, cooled := false } := by
      simp only [takeExpiry, hg, if_pos hd]
    have hown := (takeExpiry_step hw s).own
    rw [hg, Option.map_some, GuestSession.afterExpiry, if_pos hd] at hown
    exact ⟨_, next_running (f := takeExpiry hw) rfl hrun, by rw [hstep]; rfl, hown, (takeExpiry_step hw s).others⟩
  · have hd : g.expiryDue s.now = false := by simp [GuestSession.expiryDue, hstate]
    refine (next_running (f := takeExpiry hw) rfl hrun).trans (congrArg _ ?_)
    simp only [takeExpiry, hg, hd, Bool.false_eq_true, if_false]
  · have hd : g.cooldownDue s.now = true := by simp [GuestSession.cooldownDue, GuestSession.cooldownOver, hstate, hx, hdue, hcool]
    have hstep : takeCooldownEnd hw s = armGuestFull (s.putGuest { g with cooled := true }) := by
      simp only [takeCooldownEnd, hg, if_pos hd]
    have hown := (takeCooldownEnd_step hw s).own
    rw [hg, Option.map_some, GuestSession.afterCooldown, if_pos hd] at hown
    exact ⟨_, next_running (f := takeCooldownEnd hw) rfl hrun, by rw [hstep]; rfl, hown, (takeCooldownEnd_step hw s).others⟩

end Sys2Proof.Proofs
end

section
/-! A radio frame's beginning: which queue entries are granted, and what each grant makes of its label (R82, R88, R89). -/

namespace Sys2Proof.Machine

variable {s : State}

/-! ### The order of the grants (R88) -/

theorem alternate_perm {α : Type} (xs ys : List α) : (alternate xs ys).Perm (xs ++ ys) := by
  induction xs, ys using alternate.induct with
  | case1 ys => simp [alternate]
  | case2 xs hne => cases xs <;> simp [alternate]
  | case3 x xs y ys ih =>
    simp only [alternate, List.cons_append]
    exact ((ih.cons y).trans List.perm_middle.symm).cons x

/-- Entries picked from a list whose keys are distinct have distinct keys, where no entry is picked twice. -/
theorem nodup_map_append {α : Type} {f : α → Nat} {l xs ys : List α} (hl : (l.map f).Nodup) (hx : (xs.map f).Nodup) (hy : (ys.map f).Nodup)
    (hxl : ∀ x ∈ xs, x ∈ l) (hyl : ∀ y ∈ ys, y ∈ l) (hne : ∀ x ∈ xs, x ∉ ys) : ((xs ++ ys).map f).Nodup := by
  rw [List.map_append]
  refine hx.append hy fun k hkx hky => ?_
  obtain ⟨x, hx, rfl⟩ := List.mem_map.mp hkx
  obtain ⟨y, hy, hxy⟩ := List.mem_map.mp hky
  exact hne x hx (List.inj_on_of_nodup_map hl (hyl y hy) (hxl x hx) hxy ▸ hy)

theorem mem_grantOrder {r : Reason} {qs : List QueueEntry} {q : QueueEntry} (h : q ∈ grantOrder r qs) : q ∈ qs ∧ q.reason = r := by
  have hmem := (alternate_perm _ _).mem_iff.mp h
  simp only [List.mem_append, List.mem_filter, Bool.and_eq_true, beq_iff_eq] at hmem
  rcases hmem with ⟨hq, hr, -⟩ | ⟨hq, hr, -⟩ <;> exact ⟨hq, hr⟩

theorem nodup_grantOrder {f : QueueEntry → Nat} (r : Reason) {qs : List QueueEntry} (h : (qs.map f).Nodup) :
    ((grantOrder r qs).map f).Nodup := by
  have hsub (p : QueueEntry → Bool) : ((qs.filter p).map f).Nodup := h.sublist (List.filter_sublist.map f)
  refine ((alternate_perm _ _).map f).nodup_iff.mpr (nodup_map_append h (hsub _) (hsub _) (fun x hx => (List.mem_filter.mp hx).1)
    (fun y hy => (List.mem_filter.mp hy).1) fun x hx hy => ?_)
  have hfirst := (List.mem_filter.mp hx).2
  have hretry := (List.mem_filter.mp hy).2
  simp only [Bool.and_eq_true, beq_iff_eq] at hfirst hretry
  rw [hfirst.2] at hretry
  exact absurd hretry.2 nofun

/-- The entries that a frame grants are queue entries of distinct labels, where the queue's are. -/
theorem granted_spec (frame : Nat) (poll : Option Nat) (l : LabelRadio) :
    (∀ q ∈ l.granted frame poll, q ∈ l.queue ∧ (l.eligibleWake frame poll q).isSome = true) ∧
    ((l.queue.map fun q => addrKey q.addr).Nodup → ((l.granted frame poll).map fun q => addrKey q.addr).Nodup) := by
  let es := l.queue.filter fun q => (l.eligibleWake frame poll q).isSome
  have htake : (l.granted frame poll).Sublist (grantOrder .price es ++ grantOrder .bind es ++ grantOrder .template es) := List.take_sublist ..
  have hmem : ∀ q ∈ grantOrder .price es ++ grantOrder .bind es ++ grantOrder .template es, q ∈ es := by
    intro q hq
    rw [List.mem_append, List.mem_append] at hq
    rcases hq with (h | h) | h <;> exact (mem_grantOrder h).1
  refine ⟨fun q hq => List.mem_filter.mp (hmem q (htake.subset hq)), fun hnd => ?_⟩
  have hes : (es.map fun q => addrKey q.addr).Nodup := hnd.sublist (List.filter_sublist.map _)
  have hin (r : Reason) : ∀ q ∈ grantOrder r es, q ∈ es := fun q hq => (mem_grantOrder hq).1
  refine List.Nodup.sublist (htake.map _) (nodup_map_append hes (nodup_map_append hes (nodup_grantOrder _ hes) (nodup_grantOrder _ hes)
    (hin .price) (hin .bind) fun q hp hb => ?_) (nodup_grantOrder _ hes) (fun q hq => ?_) (hin .template) fun q hq ht => ?_)
  · exact absurd ((mem_grantOrder hp).2.symm.trans (mem_grantOrder hb).2) nofun
  · rcases List.mem_append.mp hq with h | h <;> exact (mem_grantOrder h).1
  · have htem := (mem_grantOrder ht).2
    rcases List.mem_append.mp hq with h | h <;> exact absurd ((mem_grantOrder h).2.symm.trans htem) nofun

/-! ### An item read for an update (R22, R89) -/

/-- An item record as a read with these faults leaves it. -/
def ItemRecord.readAt (mem : MemFaults) (r : ItemRecord) : ItemRecord := { r with damaged := r.damaged || mem.items.contains r.code }

theorem ItemRecord.readAt_readAt (mem : MemFaults) (r : ItemRecord) : (r.readAt mem).readAt mem = r.readAt mem := by
  simp [readAt]

theorem ItemRecord.readAt_eq {mem : MemFaults} {r : ItemRecord} {d : Bool} (h : (r.damaged || mem.items.contains r.code) = d) :
    r.readAt mem = { r with damaged := d } := by
  rw [readAt, h]

theorem checkItem_read (mem : MemFaults) (c : Nat) : (checkItem mem c s).item c = (s.item c).map (·.readAt mem) := by
  cases hi : s.item c with
  | none => simp [checkItem, hi]
  | some r =>
    obtain rfl := item_code hi
    by_cases hd : r.damaged = true
    · rw [checkItem_damaged mem hi hd, hi, Option.map_some, ItemRecord.readAt_eq (d := r.damaged) (by simp [hd])]
    · have hd : r.damaged = false := by simpa using hd
      by_cases hm : r.code ∈ mem.items
      · rw [checkItem_first hi hd hm, logFault_item, Option.map_some, ItemRecord.readAt_eq (d := true) (by simp [hm])]
        exact putItem_item s { r with damaged := true }
      · rw [checkItem_clean mem s hm, hi, Option.map_some, ItemRecord.readAt_eq (d := r.damaged) (by simp [hm])]

/-- What every read of an item so far leaves of each record, whether it was the one read or not. -/
theorem checkItem_readAt (mem : MemFaults) (c k : Nat) :
    ((checkItem mem k s).item c).map (·.readAt mem) = (s.item c).map (·.readAt mem) := by
  by_cases h : c = k
  · subst h
    rw [checkItem_read, Option.map_map]
    exact congrArg (fun f => (s.item c).map f) (funext fun r => r.readAt_readAt mem)
  · rw [checkItem_item_ne mem s h]

theorem readBound_frame (mem : MemFaults) (e : LabelEntry) :
    readBound mem e s = { s with itb := { s.itb with items := (readBound mem e s).itb.items }, msp := (readBound mem e s).msp } ∧
    e.item.bind (fun c => (readBound mem e s).item c) = e.item.bind (fun c => (s.item c).map (·.readAt mem)) ∧
    ∀ c, ((readBound mem e s).item c).map (·.readAt mem) = (s.item c).map (·.readAt mem) := by
  unfold readBound
  cases e.item with
  | none => exact ⟨rfl, rfl, fun _ => rfl⟩
  | some k =>
    obtain ⟨is, m, h, -⟩ := checkItem_frame mem k s
    exact ⟨by dsimp only; rw [h], checkItem_read mem k, fun c => checkItem_readAt mem c k⟩

/-! ### One grant, and all of a frame's (R88, R89) -/

/-- What one grant of a frame says of its label: the update composed from what a read of the item gives, and the label as it stood. -/
def GrantOf (mem : MemFaults) (frame : Nat) (s t : State) (g : Grant) : Prop :=
  ∃ e w, s.lrc.entry g.entry.addr = some e ∧ windowWake (s.lrc.rail g.entry.addr.rail).code g.entry.addr.rail frame = some w ∧
    g.addr = e.addr ∧ g.oldState = e.state ∧ g.oldSend = e.lastSend ∧
    g.update = compose e (e.item.bind fun c => (s.item c).map (·.readAt mem)) s.tps ∧
    t.lrc.entry g.addr = some { e with state := .sent, lastSend := some ⟨g.update.tag, w⟩ } ∧ ∀ q ∈ t.lrc.queue, q.addr ≠ g.addr

/-- What granting leaves as it was: all but items, reports and faults, the directory and the queue; of the records, what a read gives. -/
structure Granting (mem : MemFaults) (s t : State) : Prop where
  frame : t = { s with
    itb := { s.itb with items := t.itb.items }, msp := t.msp, lrc := { s.lrc with directory := t.lrc.directory, queue := t.lrc.queue } }
  queue : ∀ q ∈ t.lrc.queue, q ∈ s.lrc.queue
  items : ∀ c, (t.item c).map (·.readAt mem) = (s.item c).map (·.readAt mem)

theorem Granting.refl (mem : MemFaults) (s : State) : Granting mem s s := ⟨rfl, fun _ h => h, fun _ => rfl⟩

theorem Granting.trans {mem : MemFaults} {s t u : State} (h : Granting mem s t) (g : Granting mem t u) : Granting mem s u :=
  ⟨g.frame.trans (by rw [h.frame]), fun q hq => h.queue q (g.queue q hq), fun c => (g.items c).trans (h.items c)⟩

theorem grantOne_spec {mem : MemFaults} {frame : Nat} {q : QueueEntry} {e : LabelEntry} {w : Nat} (he : s.lrc.entry q.addr = some e)
    (hw : windowWake (s.lrc.rail q.addr.rail).code q.addr.rail frame = some w) :
    ∃ t g, grantOne mem frame q s = (t, [g]) ∧ g.entry = q ∧ addrKey g.addr = addrKey q.addr ∧ Granting mem s t ∧ GrantOf mem frame s t g ∧
      ∀ a, addrKey a ≠ addrKey q.addr → t.lrc.entry a = s.lrc.entry a := by
  obtain ⟨hframe, hbound, hitems⟩ := readBound_frame (s := s) mem e
  generalize hread : readBound mem e s = r at hframe hbound hitems
  generalize r.itb.items = its at hframe
  generalize r.msp = m at hframe
  subst hframe
  let u := compose e (e.item.bind fun c => (s.item c).map (·.readAt mem)) s.tps
  let f : LabelEntry := { e with state := .sent, lastSend := some ⟨u.tag, w⟩ }
  let t : State := { s with itb := { s.itb with items := its }, msp := m, lrc := (s.lrc.put f).leave e.addr }
  have hkey : addrKey e.addr = addrKey q.addr := LabelRadio.addrKey_of_entry he
  have hentry (a : LabelAddr) : t.lrc.entry a = if addrKey a = addrKey q.addr then some f else s.lrc.entry a :=
    LabelRadio.entry_put_of_entry (f := f) he rfl a
  have hleft : ∀ x ∈ t.lrc.queue, x ∈ s.lrc.queue ∧ x.addr ≠ e.addr := fun x hx =>
    ⟨(List.mem_filter.mp hx).1, by simpa using (List.mem_filter.mp hx).2⟩
  refine ⟨t, ⟨e.addr, u, q, e.state, e.lastSend⟩, ?_, rfl, hkey, ⟨rfl, fun x hx => (hleft x hx).1, hitems⟩,
    ⟨e, w, he, hw, rfl, rfl, rfl, rfl, ?_, fun x hx => (hleft x hx).2⟩, fun a ha => ?_⟩
  · have hcomp := congrArg (fun i => compose e i s.tps) hbound
    simp only [grantOne, he, hw, hread, composeOn]
    dsimp only at hcomp
    rw [hcomp]
    rfl
  · exact (hentry e.addr).trans (if_pos hkey)
  · exact (hentry a).trans (if_neg ha)

theorem grantAll_spec (mem : MemFaults) (frame : Nat) (qs : List QueueEntry) (s : State)
    (hqs : ∀ q ∈ qs, ∃ e w, s.lrc.entry q.addr = some e ∧ windowWake (s.lrc.rail q.addr.rail).code q.addr.rail frame = some w) :
    ∃ t gs, grantAll mem frame qs s = (t, gs) ∧ gs.map (·.entry) = qs ∧ Granting mem s t ∧
      (∀ a, (∀ g ∈ gs, addrKey g.addr ≠ addrKey a) → t.lrc.entry a = s.lrc.entry a) ∧
      (∀ g ∈ gs, addrKey g.addr = addrKey g.entry.addr) ∧
      ((qs.map fun q => addrKey q.addr).Nodup → ∀ g ∈ gs, GrantOf mem frame s t g) := by
  induction qs generalizing s with
  | nil => exact ⟨s, [], rfl, rfl, .refl mem s, fun _ _ => rfl, fun g hg => absurd hg List.not_mem_nil, fun _ g hg => absurd hg List.not_mem_nil⟩
  | cons q qs ih =>
    obtain ⟨e, w, he, hw⟩ := hqs q List.mem_cons_self
    obtain ⟨t, g, hone, hgq, hgkey, hgranting, hof, hothers⟩ := grantOne_spec (mem := mem) he hw
    have hrail (n : Nat) : t.lrc.rail n = s.lrc.rail n := by rw [hgranting.frame]; rfl
    have hqs' : ∀ x ∈ qs, ∃ e w, t.lrc.entry x.addr = some e ∧ windowWake (t.lrc.rail x.addr.rail).code x.addr.rail frame = some w := by
      intro x hx
      obtain ⟨ex, wx, hex, hwx⟩ := hqs x (List.mem_cons_of_mem _ hx)
      rw [hrail]
      by_cases hk : addrKey x.addr = addrKey q.addr
      · obtain ⟨f, _, hf, _, ha, _, _, _, hfe, _⟩ := hof
        rw [LabelRadio.entry_congr (hk.trans hgkey.symm)]
        exact ⟨_, wx, hfe, hwx⟩
      · exact ⟨ex, wx, (hothers x.addr hk).trans hex, hwx⟩
    obtain ⟨v, gs, hall, hmap, hgranting', hothers', hkeys, hofs⟩ := ih t hqs'
    refine ⟨v, g :: gs, ?_, ?_, hgranting.trans hgranting', fun a ha => ?_, fun x hx => ?_, fun hnd x hx => ?_⟩
    · simp only [grantAll, hone, hall]
      rfl
    · rw [List.map_cons, hgq, hmap]
    · rw [hothers' a fun x hx => ha x (List.mem_cons_of_mem _ hx)]
      exact hothers a fun h => ha g List.mem_cons_self (hgkey.trans h.symm)
    · rcases List.mem_cons.mp hx with rfl | hx
      · rw [hgkey, hgq]
      · exact hkeys x hx
    · rw [List.map_cons, List.nodup_cons] at hnd
      have hne (y : Grant) (hy : y ∈ gs) : addrKey y.entry.addr ≠ addrKey q.addr := by
        have hmem : y.entry ∈ qs := by
          rw [← hmap]
          exact List.mem_map_of_mem hy
        exact fun h => hnd.1 (List.mem_map.mpr ⟨y.entry, hmem, h⟩)
      rcases List.mem_cons.mp hx with rfl | hx
      · obtain ⟨e, w, he, hw, ha, hs, hl, hu, hentry, hq⟩ := hof
        refine ⟨e, w, he, hw, ha, hs, hl, hu, ?_, fun y hy => hq y (hgranting'.queue y hy)⟩
        rw [hothers' x.addr fun y hy => ?_]
        · exact hentry
        · rw [hkeys y hy, hgkey]
          exact hne y hy
      · obtain ⟨e, w, he, hw, ha, hs, hl, hu, hentry, hq⟩ := hofs hnd.2 x hx
        rw [hothers _ (hne x hx)] at he
        rw [hrail] at hw
        have htps : t.tps = s.tps := by rw [hgranting.frame]
        rw [htps] at hu
        simp only [hgranting.items] at hu
        exact ⟨e, w, he, hw, ha, hs, hl, hu, hentry, hq⟩

/-! ### What an update shows (R89) -/

theorem compose_read {e : LabelEntry} {item : Nat → Option ItemRecord} {t : TemplateStore} {mem : MemFaults} {u : Update}
    (hu : u = compose e (e.item.bind fun c => (item c).map (·.readAt mem)) t) :
    (e.item = none → u.figures = none ∧ u.desc = none ∧ u.tag.version = none) ∧
    ∀ c r, e.item = some c → item c = some r → r.code = c → u.tag.version = some r.version ∧
      (∀ p, r.current = some p → r.damaged = false → c ∉ mem.items → u.figures = some (labelFigures p) ∧ u.desc = some r.desc) ∧
      (r.current = none ∨ r.damaged = true ∨ c ∈ mem.items → u.figures = none ∧ u.desc = none) := by
  refine ⟨fun hnone => ?_, fun c r hc hr hcode => ?_⟩
  · rw [hu, hnone]
    exact ⟨rfl, rfl, rfl⟩
  · subst hcode
    rw [hu, hc, Option.bind_some, hr, Option.map_some]
    cases hcur : r.current with
    | none =>
      have hitem : composeItem (some (r.readAt mem)) = (none, none, some r.version) := by simp [composeItem, ItemRecord.readAt, hcur]
      simp only [compose, hitem]
      exact ⟨trivial, fun p h => absurd h nofun, fun _ => ⟨trivial, trivial⟩⟩
    | some p =>
      cases hd : r.damaged || mem.items.contains r.code with
      | false =>
        have hitem : composeItem (some (r.readAt mem)) = (some (labelFigures p), some r.desc, some r.version) := by
          rw [ItemRecord.readAt_eq hd]
          simp [composeItem, hcur]
        simp only [Bool.or_eq_false_iff, List.contains_eq_mem, decide_eq_false_iff_not] at hd
        simp only [compose, hitem]
        refine ⟨trivial, fun x hx _ _ => ?_, fun h => ?_⟩
        · rw [Option.some_inj.mp hx]
          exact ⟨rfl, trivial⟩
        · rcases h with h | h | h
          · exact absurd h nofun
          · rw [hd.1] at h
            exact absurd h nofun
          · exact absurd h hd.2
      | true =>
        have hitem : composeItem (some (r.readAt mem)) = (none, none, some r.version) := by
          rw [ItemRecord.readAt_eq hd]
          simp [composeItem, hcur]
        simp only [Bool.or_eq_true, List.contains_eq_mem, decide_eq_true_eq] at hd
        simp only [compose, hitem]
        refine ⟨trivial, fun x _ hdam hmem => ?_, fun _ => ⟨trivial, trivial⟩⟩
        rcases hd with h | h
        · rw [hdam] at h
          exact absurd h nofun
        · exact absurd h hmem

/-- Eligible is what a frame's window, the poll and the label's last send allow (R88). -/
theorem eligibleWake_isSome (frame : Nat) (poll : Option Nat) (l : LabelRadio) (q : QueueEntry) :
    ((l.eligibleWake frame poll q).isSome = true ↔ ∃ w e, windowWake (l.rail q.addr.rail).code q.addr.rail frame = some w ∧
      l.entry q.addr = some e ∧ poll ≠ some q.addr.rail ∧ e.lastSend.map (·.wake) ≠ some w) := by
  unfold LabelRadio.eligibleWake
  cases hw : windowWake (l.rail q.addr.rail).code q.addr.rail frame with
  | none => simp
  | some w =>
    cases he : l.entry q.addr with
    | none => simp
    | some e =>
      by_cases hp : poll = some q.addr.rail
      · simp [hp]
      · cases hs : e.lastSend with
        | none => simp [hp, hs]
        | some x => by_cases hx : x.wake = w <;> simp [hp, hs, hx]

end Sys2Proof.Machine

namespace Sys2Proof.Proofs
open Sys2Proof.Machine

/-- Settles O37, by the grants one after another. -/
theorem radioFrameSendsGrantedLabels : Obligations.RadioFrameSendsGrantedLabels := by
  intro mem s hrun hdue hframe poll wake eligible turn
  have heligible : eligible = s.lrc.queue.filter fun q => (s.lrc.eligibleWake s.now poll q).isSome := by
    refine List.filter_congr fun q _ => ?_
    rw [Bool.eq_iff_iff, eligibleWake_isSome]
    dsimp only [wake]
    cases windowWake (s.lrc.rail q.addr.rail).code q.addr.rail s.now with
    | none => simp
    | some w =>
      cases he : s.lrc.entry q.addr with
      | none => simp
      | some e => simp
  obtain ⟨hin, hnodup⟩ := granted_spec s.now poll s.lrc
  have hqs : ∀ q ∈ s.lrc.granted s.now poll, ∃ e w, s.lrc.entry q.addr = some e ∧
      windowWake (s.lrc.rail q.addr.rail).code q.addr.rail s.now = some w := by
    intro q hq
    obtain ⟨w, e, hw, he, -⟩ := (eligibleWake_isSome ..).mp (hin q hq).2
    exact ⟨e, w, he, hw⟩
  obtain ⟨t, gs, hall, hmap, hgranting, hothers, hkeys, hofs⟩ := grantAll_spec mem s.now _ s hqs
  have hexec : exec (.radioFrame mem) s = .next (handOver s.now poll gs t) := by
    refine (next_running (f := fun s => if s.lrc.frameDue && s.lrc.frame.isNone then beginFrame mem s else s) rfl hrun).trans ?_
    simp only [hdue, hframe, Option.isNone_none, Bool.and_self, if_true, beginFrame]
    rw [hall]
  refine ⟨_, gs, hexec, ?_, ?_, hgranting.queue, fun hnd g hg => ?_, fun a ha => hothers a ha⟩
  · rw [hgranting.frame]
    rfl
  · rw [hmap, LabelRadio.granted, ← heligible]
    rfl
  · obtain ⟨e, w, he, hw, ha, hs, hl, hu, hentry, hq⟩ := hofs (hnodup hnd) g hg
    obtain ⟨hnone, hsome⟩ := compose_read hu
    refine ⟨?_, hq, e, _, w, he, ha.symm, hw, hs, hl, hentry, rfl, ?_, ?_, ?_, hnone, fun c r hc hr => hsome c r hc hr (item_code hr)⟩
    all_goals rw [hu]
    · exact ha.symm
    all_goals rfl

end Sys2Proof.Proofs
end

section
/-! A radio frame's answers and its end: acknowledgements, failed hand-overs, the rail poll, and labels still SENT (R83, R90 to R95). -/

namespace Sys2Proof.Machine

variable {s : State}

/-! ### A label queued, or settled, after its answer (R85, R90) -/

theorem LabelRadio.entry_enqueue (now : Nat) (e : LabelEntry) (r : Reason) (k : Attempt) (l : LabelRadio) (b : LabelAddr) :
    (l.enqueue now e r k).entry b = if addrKey b = addrKey e.addr then some { e with state := .queued, owed := some r } else l.entry b :=
  entry_put ..

/-- Where a label goes after a matching acknowledgement: IDLE and owing nothing, or QUEUED again (R90, step 5). -/
theorem afterAck_spec (x : LabelEntry) (s : State) : ∃ y t, afterAck x s = t ∧
    t = { s with lrc := { s.lrc with directory := t.lrc.directory, queue := t.lrc.queue, nextSerial := t.lrc.nextSerial } } ∧
    (∀ b, t.lrc.entry b = if addrKey b = addrKey x.addr then some y else s.lrc.entry b) ∧
    y = { x with state := y.state, owed := y.owed, requeue := none } ∧ (y.state = .idle ∨ y.state = .queued) ∧
    (∀ r, x.requeue = some r → y.state = .queued ∧ y.owed = some r) ∧ (y.state = .idle → t.lrc.queue = s.lrc.queue ∧ y.owed = none) := by
  unfold afterAck
  cases hr : x.requeue with
  | some r =>
    refine ⟨{ x with requeue := none, state := .queued, owed := some r }, _, rfl, rfl, fun b => LabelRadio.entry_enqueue .., rfl, .inr rfl,
      fun r' h => ⟨rfl, ?_⟩, nofun⟩
    rw [Option.some_inj.mp h]
  | none =>
    have hsame : { x with requeue := none } = x := by rw [← hr]
    dsimp only
    split
    · exact ⟨{ x with state := .idle, owed := none, requeue := none }, _, rfl, rfl, fun b => LabelRadio.entry_put .., rfl, .inl rfl, nofun,
        fun _ => ⟨rfl, rfl⟩⟩
    · refine ⟨{ x with state := .queued, owed := some (staleReason x s) }, _, rfl, rfl, fun b => LabelRadio.entry_enqueue .., ?_, .inr rfl,
        nofun, nofun⟩
      exact congrArg (fun y : LabelEntry => { y with state := .queued, owed := some (staleReason x s) }) hsame.symm

theorem ackNotice_none {c : Nat} (a : LabelAddr) (v : Nat) (h : s.item c = none) : ackNotice c a v s = s := by
  simp only [ackNotice, h]

theorem ackNotice_unlisted {c : Nat} {a : LabelAddr} {r : ItemRecord} (v : Nat) (h : s.item c = some r)
    (ha : r.labels.any (fun l => l.addr == a) = false) : ackNotice c a v s = s := by
  simp only [ackNotice, h, ha, Bool.false_eq_true, if_false]

/-- The item's copies of its labels after one of them confirms a version (R7, R10). -/
def confirmLabel (a : LabelAddr) (v present : Nat) (l : BoundLabel) : BoundLabel :=
  if l.addr = a then ⟨a, some v, l.excluded && v != present⟩ else l

theorem ackNotice_listed {c : Nat} {a : LabelAddr} {r : ItemRecord} (v : Nat) (h : s.item c = some r)
    (ha : r.labels.any (fun l => l.addr == a) = true) :
    ackNotice c a v s = s.putItem (r.relabel s.now (r.labels.map (confirmLabel a v r.version))) := by
  have hmap : (fun l : BoundLabel => if l.addr = a then ⟨a, some v, if v = r.version then false else l.excluded⟩ else l) =
      confirmLabel a v r.version := by
    funext l
    by_cases hv : v = r.version
    · simp [confirmLabel, hv]
    · have hne : (v != r.version) = true := by simpa using hv
      simp [confirmLabel, hv, hne]
  simp only [ackNotice, h, ha, if_true, hmap]

/-- The item's copy of a label takes the version that the label confirmed (R10). -/
theorem ackNotice_spec (c : Nat) (a : LabelAddr) (v : Nat) (s : State) :
    (∃ its, ackNotice c a v s = { s with itb := { s.itb with items := its } }) ∧
    ∀ r, s.item c = some r → a ∈ r.labels.map (·.addr) → ∃ r', (ackNotice c a v s).item c = some r' ∧ r'.count = r'.pendingCount ∧
      r'.labels = r.labels.map (confirmLabel a v r.version) := by
  cases hi : s.item c with
  | none => exact ⟨⟨s.itb.items, ackNotice_none a v hi⟩, fun r h => absurd h.symm (Option.some_ne_none r)⟩
  | some r =>
    cases ha : r.labels.any (fun l => l.addr == a) with
    | false =>
      refine ⟨⟨s.itb.items, ackNotice_unlisted v hi ha⟩, fun x hx hmem => ?_⟩
      obtain rfl := Option.some_inj.mp hx
      obtain ⟨l, hl, hla⟩ := List.mem_map.mp hmem
      exact absurd (List.any_eq_false.mp ha l hl) (by simp [hla])
    | true =>
      refine ⟨⟨_, ackNotice_listed v hi ha⟩, fun x hx _ => ?_⟩
      obtain rfl := Option.some_inj.mp hx
      rw [ackNotice_listed v hi ha]
      exact ⟨_, putItem_relabel_item s.now _ hi, rfl, rfl⟩

theorem sendAckNotice_spec (x : LabelEntry) (s : State) :
    (∃ its, sendAckNotice x s = { s with itb := { s.itb with items := its } }) ∧
    ∀ c v r, x.item = some c → x.confirmed = some v → s.item c = some r → x.addr ∈ r.labels.map (·.addr) →
      ∃ r', (sendAckNotice x s).item c = some r' ∧ r'.count = r'.pendingCount ∧
        r'.labels = r.labels.map (confirmLabel x.addr v r.version) := by
  unfold sendAckNotice
  split
  · next c v hc hv =>
    obtain ⟨hframe, hitem⟩ := ackNotice_spec c x.addr v s
    refine ⟨hframe, fun c' v' r hc' hv' hr ha => ?_⟩
    obtain rfl := Option.some_inj.mp (hc.symm.trans hc')
    obtain rfl := Option.some_inj.mp (hv.symm.trans hv')
    exact hitem r hr ha
  · next hnot => exact ⟨⟨s.itb.items, rfl⟩, fun c v r hc hv => absurd hv (hnot c v hc)⟩

/-- A matching acknowledgement: what it writes of the label, of the item and of the reports (R10, R90). -/
theorem takeAck_spec (e : LabelEntry) (a : AckAnswer) (s : State) : ∃ t e', takeAck e a s = t ∧
    t = { s with
      itb := { s.itb with items := t.itb.items }, msp := { s.msp with reports := t.msp.reports }
      lrc := { s.lrc with directory := t.lrc.directory, queue := t.lrc.queue, nextSerial := t.lrc.nextSerial } } ∧
    (∀ b, t.lrc.entry b = if addrKey b = addrKey e.addr then some e' else s.lrc.entry b) ∧
    (e'.confirmed = a.tag.version ∧ e'.revision = some a.tag.revision ∧ e'.stamp = some a.tag.stamp ∧ e'.retries = 0 ∧ e'.missed = 0 ∧
      e'.lastHeard = some s.now ∧ e'.battery = some a.battery ∧ e'.requeue = none) ∧
    (e'.state = .idle ∨ e'.state = .queued) ∧ (∀ r, e.requeue = some r → e'.state = .queued ∧ e'.owed = some r) ∧
    (e'.state = .idle → t.lrc.queue = s.lrc.queue ∧ e'.owed = none) ∧
    (∀ c v r, e.item = some c → a.tag.version = some v → s.item c = some r → e.addr ∈ r.labels.map (·.addr) →
      ∃ r', t.item c = some r' ∧ r'.count = r'.pendingCount ∧ r'.labels = r.labels.map (confirmLabel e.addr v r.version)) ∧
    t.msp.reports = (if a.battery ≤ 2 ∧ e.lowReported = false then
      queueReport s.now (.labelBattery e.addr e.item a.battery) s.msp.reports else s.msp.reports) := by
  let x := (e.acked a s.now).confirm (boundVersion e s)
  obtain ⟨⟨its, hnotice⟩, hitem⟩ := sendAckNotice_spec x s
  let u : State := { s with
    itb := { s.itb with items := its }
    msp := { s.msp with
      reports := if a.battery ≤ 2 ∧ e.lowReported = false then
        queueReport s.now (.labelBattery e.addr e.item a.battery) s.msp.reports else s.msp.reports } }
  have hstep : takeAck e a s = afterAck (x.judgeBattery a.battery) u := by
    have hlow : e.lowBattery a.battery = true ↔ a.battery ≤ 2 ∧ e.lowReported = false := by simp [LabelEntry.lowBattery]
    have hbattery : (if e.lowBattery a.battery = true then State.report (.labelBattery e.addr e.item a.battery)
        { s with itb := { s.itb with items := its } } else { s with itb := { s.itb with items := its } }) = u := by
      by_cases h : a.battery ≤ 2 ∧ e.lowReported = false
      · rw [if_pos (hlow.mpr h)]
        simp only [u, if_pos h]
        rfl
      · rw [if_neg (mt hlow.mp h)]
        simp only [u, if_neg h]
    unfold takeAck
    dsimp only
    rw [hnotice, hbattery]
  obtain ⟨y, t, hafter, hframe, hentry, hy, hstate, hreq, hidle⟩ := afterAck_spec (x.judgeBattery a.battery) u
  have hown : y.confirmed = a.tag.version ∧ y.revision = some a.tag.revision ∧ y.stamp = some a.tag.stamp ∧ y.retries = 0 ∧ y.missed = 0 ∧
      y.lastHeard = some s.now ∧ y.battery = some a.battery ∧ y.requeue = none := by
    rw [hy]
    exact ⟨rfl, rfl, rfl, rfl, rfl, rfl, rfl, rfl⟩
  refine ⟨t, y, hstep.trans hafter, ?_, hentry, hown, hstate, hreq, hidle, fun c v r hc hv hr ha => ?_, ?_⟩
  · rw [hframe]
  · obtain ⟨r', hr', hcount, hlabels⟩ := hitem c v r hc hv hr ha
    rw [hnotice] at hr'
    refine ⟨r', ?_, hcount, hlabels⟩
    rw [hframe]
    exact hr'
  · rw [hframe]

/-- The frame in flight once an answer has come back (R83). -/
theorem accept_false (f : FrameInFlight) (l : LabelRadio) : l.accept false f = { l with frame := some { f with accepted := true }, port := .ok } := by
  simp [LabelRadio.accept]

theorem matches_iff (a : AckAnswer) (e : LabelEntry) : e.matches a = true ↔ e.state = .sent ∧ ∃ l, e.lastSend = some l ∧ l.tag = a.tag := by
  unfold LabelEntry.matches
  cases e.lastSend <;> simp

theorem ackTarget_none {f : FrameInFlight} {slot : Nat} {a : AckAnswer} {l : LabelRadio}
    (h : ∀ g e, f.grants[slot]? = some g → l.entry g.addr = some e → e.state ≠ .sent ∨ ∀ x, e.lastSend = some x → x.tag ≠ a.tag) :
    ackTarget f slot a l = none := by
  unfold ackTarget
  cases hg : f.grants[slot]? with
  | none => rfl
  | some g =>
    dsimp only
    cases he : l.entry g.addr with
    | none => rfl
    | some e =>
      dsimp only
      refine if_neg fun hm => ?_
      obtain ⟨hsent, x, hx, htag⟩ := (matches_iff a e).mp hm
      rcases h g e hg he with hs | hl
      · exact hs hsent
      · exact hl x hx htag

theorem ackTarget_some {f : FrameInFlight} {slot : Nat} {a : AckAnswer} {l : LabelRadio} {g : Grant} {e : LabelEntry}
    (hg : f.grants[slot]? = some g) (he : l.entry g.addr = some e) (hs : e.state = .sent) {w : Nat} (hl : e.lastSend = some ⟨a.tag, w⟩) :
    ackTarget f slot a l = some e := by
  simp only [ackTarget, hg, he]
  exact if_pos ((matches_iff a e).mpr ⟨hs, _, hl, rfl⟩)

end Sys2Proof.Machine

namespace Sys2Proof.Proofs
open Sys2Proof.Machine

/-- Settles O38, by what the slot's answer window held. -/
theorem acknowledgementConfirmsItsLabel : Obligations.AcknowledgementConfirmsItsLabel := by
  intro slot s hrun
  have hexec (answer : Option AckAnswer) : exec (.labelAck slot answer) s = .next (slotAnswer slot answer s) :=
    next_running (f := slotAnswer slot answer) rfl hrun
  refine ⟨fun answer hnone => ?_, fun f hf => ?_, fun f a hf hno => ?_, fun f g e a w hf hg he hs hl => ?_⟩
  · have hstep : slotAnswer slot answer s = s.onLrc (·.staleAnswer) := by simp only [slotAnswer, hnone]
    exact (hexec answer).trans (congrArg _ hstep)
  · rw [hexec]
    simp only [slotAnswer, hf, State.onLrc, accept_false]
    rfl
  · rw [hexec]
    simp only [slotAnswer, hf, State.onLrc, accept_false]
    rw [ackTarget_none (l := { s.lrc with frame := some { f with accepted := true }, port := .ok }) hno]
    rfl
  · obtain ⟨t, e', htake, hframe, hentry, ⟨hc, hr, hst, hre, hmi, hh, hb, hq⟩, hstate, hreq, hidle, hitem, hreports⟩ :=
      takeAck_spec e a { s with lrc := { s.lrc with frame := some { f with accepted := true }, port := .ok } }
    have hstep : slotAnswer slot (some a) s = t := by
      simp only [slotAnswer, hf, State.onLrc, accept_false]
      rw [ackTarget_some (l := { s.lrc with frame := some { f with accepted := true }, port := .ok }) hg he hs hl]
      exact htake
    refine ⟨t, e', (hexec _).trans (congrArg _ hstep), hframe, ?_, hc, hr, hst, hre, hmi, hh, hb, hq, hstate, hreq, hidle, hitem, hreports⟩
    exact (hentry g.addr).trans (if_pos (LabelRadio.addrKey_of_entry he).symm)

end Sys2Proof.Proofs
end

section
/-! The end of a radio frame, a failed hand-over and a rail poll: what becomes of each label (R83, R92, R95). -/

namespace Sys2Proof.Machine

variable {s t : State}

/-! ### Labels judged by their directory keys, one after another -/

/-- Only the labels, their queue and the reports have moved. -/
def OnlyLabels (s t : State) : Prop :=
  t = { s with
    lrc := { s.lrc with directory := t.lrc.directory, queue := t.lrc.queue, nextSerial := t.lrc.nextSerial }
    msp := { s.msp with reports := t.msp.reports } }

theorem OnlyLabels.refl (s : State) : OnlyLabels s s := rfl

theorem OnlyLabels.trans {s t u : State} (h : OnlyLabels s t) (g : OnlyLabels t u) : OnlyLabels s u := by
  unfold OnlyLabels at h g ⊢
  rw [h] at g
  exact g

/-- A step at one directory key: the entry there becomes what `g` makes of it, every other stays. -/
structure KeyStep (step : State → State) (k : Nat) (g : LabelEntry → LabelEntry) (s : State) : Prop where
  frame : OnlyLabels s (step s)
  entry : ∀ b, (step s).lrc.entry b = if addrKey b = k then (s.lrc.entry b).map g else s.lrc.entry b

theorem KeyStep.of_found {step : State → State} {k : Nat} {g : LabelEntry → LabelEntry}
    (hnone : findKey LabelEntry.key k s.lrc.directory = none → step s = s)
    (hsome : ∀ e, findKey LabelEntry.key k s.lrc.directory = some e → OnlyLabels s (step s) ∧
      ∀ b, (step s).lrc.entry b = if addrKey b = addrKey e.addr then some (g e) else s.lrc.entry b) : KeyStep step k g s := by
  have hat (b : LabelAddr) (hb : addrKey b = k) : s.lrc.entry b = findKey LabelEntry.key k s.lrc.directory := by
    unfold LabelRadio.entry
    rw [hb]
  cases hk : findKey LabelEntry.key k s.lrc.directory with
  | none =>
    refine ⟨by rw [hnone hk]; exact .refl s, fun b => ?_⟩
    rw [hnone hk]
    split
    · next hb => rw [hat b hb, hk]; rfl
    · rfl
  | some e =>
    obtain ⟨hframe, hentry⟩ := hsome e hk
    refine ⟨hframe, fun b => ?_⟩
    rw [hentry, show addrKey e.addr = k from findKey_key LabelEntry.key hk]
    split
    · next hb => rw [hat b hb, hk]; rfl
    · rfl

/-- An entry that a step leaves as it is. -/
theorem entry_left {k : Nat} {e : LabelEntry} (hk : findKey LabelEntry.key k s.lrc.directory = some e) (b : LabelAddr) :
    s.lrc.entry b = if addrKey b = addrKey e.addr then some e else s.lrc.entry b := by
  split
  · next hb =>
    unfold LabelRadio.entry
    rw [hb, show addrKey e.addr = k from findKey_key LabelEntry.key hk, hk]
  · rfl

/-- Steps at a list of keys: the entry at an address is judged as often as the list names its key. -/
theorem entries_judged {step : State → Nat → State} {g : Nat → Nat → LabelEntry → LabelEntry}
    (hstep : ∀ s k, KeyStep (fun s => step s k) k (g s.now s.lrc.retryLimit) s) (ks : List Nat) (s : State) :
    OnlyLabels s (ks.foldl step s) ∧
      ∀ b, (ks.foldl step s).lrc.entry b = (s.lrc.entry b).map (g s.now s.lrc.retryLimit)^[ks.count (addrKey b)] := by
  induction ks generalizing s with
  | nil => exact ⟨.refl s, fun b => by simp⟩
  | cons k ks ih =>
    obtain ⟨hframe, hentry⟩ := hstep s k
    obtain ⟨hframe', hentry'⟩ := ih (step s k)
    have hnow : (step s k).now = s.now := by rw [hframe]; rfl
    have hlimit : (step s k).lrc.retryLimit = s.lrc.retryLimit := by rw [hframe]
    rw [List.foldl_cons]
    refine ⟨hframe.trans hframe', fun b => ?_⟩
    rw [hentry', hnow, hlimit, hentry, List.count_cons]
    by_cases hb : addrKey b = k
    · rw [if_pos hb, if_pos (by simp [hb]), Option.map_map]
      rfl
    · rw [if_neg hb, if_neg (by simpa using fun h : k = addrKey b => hb h.symm)]
      rfl

/-! ### The end of the frame (R92) -/

/-- What the end of a frame makes of a label (R92). -/
def LabelEntry.resolved (limit : Nat) (e : LabelEntry) : LabelEntry :=
  if e.state = .sent then
    match e.lastSend with
    | none => { e with requeue := none, state := .queued, owed := some ((raiseOpt e.owed e.requeue).getD .bind) }
    | some _ =>
      if limit ≤ e.retries + 1 then
        { e with retries := e.retries + 1, requeue := none, state := .missing, owed := raiseOpt e.owed e.requeue }
      else { e with
        retries := e.retries + 1, requeue := none, state := .queued, owed := some ((raiseOpt e.owed e.requeue).getD .bind) }
  else e

theorem LabelEntry.resolved_state (limit : Nat) (e : LabelEntry) : (e.resolved limit).state ≠ .sent := by
  unfold resolved
  split
  · split
    · exact nofun
    · split <;> exact nofun
  · next h => exact h

theorem LabelEntry.resolved_of_ne {limit : Nat} {e : LabelEntry} (h : e.state ≠ .sent) : e.resolved limit = e := if_neg h

theorem resolveKey_step (s : State) (k : Nat) : KeyStep (resolveKey k) k (LabelEntry.resolved s.lrc.retryLimit) s := by
  refine .of_found (fun h => by simp only [resolveKey, h]) fun e he => ?_
  simp only [resolveKey, he]
  by_cases hs : e.state = .sent
  · rw [if_pos hs]
    unfold resolveSent LabelEntry.resolved
    rw [if_pos hs]
    dsimp only
    cases hl : e.lastSend with
    | none => exact ⟨rfl, fun b => LabelRadio.entry_enqueue ..⟩
    | some l =>
      dsimp only
      split
      · exact ⟨rfl, fun b => LabelRadio.entry_put ..⟩
      · exact ⟨rfl, fun b => LabelRadio.entry_enqueue ..⟩
  · rw [if_neg hs, LabelEntry.resolved_of_ne hs]
    exact ⟨.refl s, entry_left he⟩

/-- After a frame's end every label stands resolved. -/
theorem endFrame_spec {f : FrameInFlight} (hf : s.lrc.frame = some f) :
    OnlyLabels { s with lrc := { s.lrc with frame := none, port := .ok } } (endFrame s) ∧
    ∀ a, (endFrame s).lrc.entry a = (s.lrc.entry a).map (LabelEntry.resolved s.lrc.retryLimit) := by
  have hend : endFrame s = (s.lrc.directory.map LabelEntry.key).foldl (fun s k => resolveKey k s)
      { s with lrc := { s.lrc with frame := none, port := .ok } } := by simp only [endFrame, hf]; rfl
  obtain ⟨hframe, hentry⟩ := entries_judged (g := fun _ limit => LabelEntry.resolved limit) resolveKey_step
    (s.lrc.directory.map LabelEntry.key) { s with lrc := { s.lrc with frame := none, port := .ok } }
  rw [← hend] at hframe hentry
  refine ⟨hframe, fun a => (hentry a).trans ?_⟩
  change (s.lrc.entry a).map (LabelEntry.resolved s.lrc.retryLimit)^[_] = _
  cases he : s.lrc.entry a with
  | none => rfl
  | some e =>
    have hmem : addrKey a ∈ s.lrc.directory.map LabelEntry.key :=
      List.mem_map.mpr ⟨e, LabelRadio.mem_of_entry he, LabelRadio.addrKey_of_entry he⟩
    obtain ⟨n, hn⟩ := Nat.exists_eq_succ_of_ne_zero (List.count_pos_iff.mpr hmem).ne'
    rw [hn, Option.map_some, Option.map_some, Function.iterate_succ_apply,
      Function.iterate_fixed (LabelEntry.resolved_of_ne (e.resolved_state _))]

/-! ### A failed hand-over (R83) -/

/-- What a failed hand-over makes of a granted label (R83). -/
def LabelEntry.undone (g : Grant) (e : LabelEntry) : LabelEntry :=
  if e.state = .sent then { e with state := g.oldState, owed := raiseOpt e.owed e.requeue, requeue := none, lastSend := g.oldSend } else e

theorem undo_spec (g : Grant) (l : LabelRadio) : l.undo g = { l with directory := (l.undo g).directory, queue := (l.undo g).queue } ∧
    ∀ b, (l.undo g).entry b = if addrKey b = addrKey g.addr then (l.entry b).map (LabelEntry.undone g) else l.entry b := by
  unfold LabelRadio.undo
  cases he : l.entry g.addr with
  | none =>
    dsimp only
    refine ⟨rfl, fun b => ?_⟩
    split
    · next hb => rw [LabelRadio.entry_congr hb, he]; rfl
    · rfl
  | some e =>
    dsimp only
    by_cases hs : e.state = .sent
    · rw [if_pos hs]
      refine ⟨rfl, fun b => ?_⟩
      refine (LabelRadio.entry_put_of_entry (f := e.undone g) he (by rw [LabelEntry.undone, if_pos hs]) b |> Eq.trans ?_).trans ?_
      · rw [LabelEntry.undone, if_pos hs]
        rfl
      · split
        · next hb => rw [LabelRadio.entry_congr hb, he]; rfl
        · rfl
    · rw [if_neg hs]
      refine ⟨rfl, fun b => ?_⟩
      split
      · next hb => rw [LabelRadio.entry_congr hb, he, Option.map_some, LabelEntry.undone, if_neg hs]
      · rfl

theorem undoAll_spec (gs : List Grant) (hnd : (gs.map fun g => addrKey g.addr).Nodup) (l : LabelRadio) :
    let m := gs.foldl (fun l g => l.undo g) l
    m = { l with directory := m.directory, queue := m.queue } ∧
    (∀ g ∈ gs, m.entry g.addr = (l.entry g.addr).map (LabelEntry.undone g)) ∧
    ∀ b, (∀ g ∈ gs, addrKey b ≠ addrKey g.addr) → m.entry b = l.entry b := by
  induction gs generalizing l with
  | nil => exact ⟨rfl, fun g hg => absurd hg List.not_mem_nil, fun _ _ => rfl⟩
  | cons g gs ih =>
    rw [List.map_cons, List.nodup_cons] at hnd
    obtain ⟨hframe, hentry⟩ := undo_spec g l
    obtain ⟨hframe', hin, hout⟩ := ih hnd.2 (l.undo g)
    have hne (x : Grant) (hx : x ∈ gs) : addrKey g.addr ≠ addrKey x.addr :=
      fun h => hnd.1 (List.mem_map.mpr ⟨x, hx, h.symm⟩)
    refine ⟨?_, fun x hx => ?_, fun b hb => ?_⟩
    · rw [List.foldl_cons, hframe', hframe]
    · rw [List.foldl_cons]
      rcases List.mem_cons.mp hx with rfl | hx
      · rw [hout x.addr hne, hentry, if_pos rfl]
      · rw [hin x hx, hentry, if_neg fun h => hne x hx h.symm]
    · rw [List.foldl_cons, hout b fun x hx => hb x (List.mem_cons_of_mem _ hx), hentry, if_neg (hb g List.mem_cons_self)]

/-- A failed hand-over logs its fault where the port state changes (R83). -/
theorem failHandover_eq (x : HandoverFailure) (f : FrameInFlight) (s : State) : failHandover x f s =
    if s.lrc.port = HandoverFailure.port x then
      { s with lrc := { f.grants.foldl (fun l g => l.undo g) s.lrc with frame := none, port := HandoverFailure.port x } }
    else State.logFault .label (handoverFault f.number x).1 (handoverFault f.number x).2
      { s with lrc := { f.grants.foldl (fun l g => l.undo g) s.lrc with frame := none, port := HandoverFailure.port x } } := by
  unfold failHandover
  by_cases hport : s.lrc.port = HandoverFailure.port x
  · rw [if_pos hport]
    exact if_neg (by simpa using hport)
  · rw [if_neg hport]
    exact if_pos (by simpa using hport)

/-! ### The rail poll (R95) -/

/-- What a poll's answer makes of a label of its rail (R95). -/
def LabelEntry.polled (bitmap : BitVec 24) (now : Nat) (e : LabelEntry) : LabelEntry :=
  if bitmap.getLsbD e.addr.slot then
    match e.state with
    | .missing => { e with missed := 0, retries := 0, lastHeard := some now, state := if e.owed.isSome then .queued else .idle }
    | .sent => e
    | _ => { e with missed := 0, lastHeard := some now }
  else
    match e.state with
    | .missing => e
    | .sent => e
    | _ => { e with missed := e.missed + 1, state := if 3 ≤ e.missed + 1 then .missing else e.state }

theorem pollAnswered_spec {e : LabelEntry} {k : Nat} (he : findKey LabelEntry.key k s.lrc.directory = some e) {bitmap : BitVec 24}
    (hbit : bitmap.getLsbD e.addr.slot = true) : OnlyLabels s (pollAnswered e s) ∧
      ∀ b, (pollAnswered e s).lrc.entry b = if addrKey b = addrKey e.addr then some (e.polled bitmap s.now) else s.lrc.entry b := by
  unfold pollAnswered LabelEntry.polled
  rw [if_pos hbit]
  cases hs : e.state with
  | missing =>
    dsimp only
    cases ho : e.owed with
    | some r => exact ⟨rfl, fun b => LabelRadio.entry_enqueue ..⟩
    | none => exact ⟨rfl, fun b => LabelRadio.entry_put ..⟩
  | sent => exact ⟨.refl s, entry_left he⟩
  | new => exact ⟨rfl, fun b => LabelRadio.entry_put ..⟩
  | idle => exact ⟨rfl, fun b => LabelRadio.entry_put ..⟩
  | queued => exact ⟨rfl, fun b => LabelRadio.entry_put ..⟩

theorem LabelEntry.polled_kept {bitmap : BitVec 24} {e : LabelEntry} (now : Nat) (hbit : bitmap.getLsbD e.addr.slot = false)
    (h : e.state = .missing ∨ e.state = .sent) : e.polled bitmap now = e := by
  unfold polled
  rw [if_neg (by rw [hbit]; exact Bool.false_ne_true)]
  rcases h with h | h <;> rw [h]

theorem LabelEntry.polled_counted {bitmap : BitVec 24} {e : LabelEntry} (now : Nat) (hbit : bitmap.getLsbD e.addr.slot = false)
    (hm : e.state ≠ .missing) (hs : e.state ≠ .sent) :
    e.polled bitmap now = { e with missed := e.missed + 1, state := if 3 ≤ e.missed + 1 then .missing else e.state } := by
  unfold polled
  rw [if_neg (by rw [hbit]; exact Bool.false_ne_true)]
  split
  · next h => exact absurd h hm
  · next h => exact absurd h hs
  · rfl

theorem pollMissed_kept {e : LabelEntry} (h : e.state = .missing ∨ e.state = .sent) : pollMissed e s = s := by
  unfold pollMissed
  rcases h with h | h <;> rw [h]

theorem pollMissed_counted {e : LabelEntry} (hm : e.state ≠ .missing) (hs : e.state ≠ .sent) :
    pollMissed e s = if 3 ≤ e.missed + 1 then enterMissing .polls { e with missed := e.missed + 1 } s
      else s.onLrc (·.put { e with missed := e.missed + 1 }) := by
  unfold pollMissed
  split
  · next h => exact absurd h hm
  · next h => exact absurd h hs
  · rfl

theorem pollMissed_spec {e : LabelEntry} {k : Nat} (he : findKey LabelEntry.key k s.lrc.directory = some e) {bitmap : BitVec 24}
    (hbit : bitmap.getLsbD e.addr.slot = false) : OnlyLabels s (pollMissed e s) ∧
      ∀ b, (pollMissed e s).lrc.entry b = if addrKey b = addrKey e.addr then some (e.polled bitmap s.now) else s.lrc.entry b := by
  by_cases h : e.state = .missing ∨ e.state = .sent
  · rw [pollMissed_kept h, LabelEntry.polled_kept s.now hbit h]
    exact ⟨.refl s, entry_left he⟩
  · obtain ⟨hm, hs⟩ := not_or.mp h
    rw [pollMissed_counted hm hs, LabelEntry.polled_counted s.now hbit hm hs]
    by_cases h3 : 3 ≤ e.missed + 1
    · rw [if_pos h3, if_pos h3]
      exact ⟨rfl, fun b => LabelRadio.entry_put ..⟩
    · rw [if_neg h3, if_neg h3]
      exact ⟨rfl, fun b => LabelRadio.entry_put ..⟩

theorem judgePoll_step (bitmap : BitVec 24) (s : State) (k : Nat) : KeyStep (judgePoll bitmap k) k (LabelEntry.polled bitmap s.now) s := by
  refine .of_found (fun h => by simp only [judgePoll, h]) fun e he => ?_
  simp only [judgePoll, he]
  cases hbit : bitmap.getLsbD e.addr.slot with
  | true => exact pollAnswered_spec he hbit
  | false => exact pollMissed_spec he hbit

theorem rail_tset {n m : Nat} (hn : n < 1024) (x : RailEntry) (l : LabelRadio) :
    LabelRadio.rail m { l with rails := tset l.rails n x } = if n = m then x else l.rail m := by
  refine (tget_tset l.rails n m x RailEntry.cold).trans (if_congr ?_ rfl rfl)
  exact and_iff_left hn

/-- A poll's answer: the rail's row written, and each label of the rail judged by it once (R95). -/
theorem takeBitmap_spec {n : Nat} (number : Nat) (bitmap : BitVec 24) (hn : n < 1024) (hord : s.labelsOrdered) :
    let row : RailEntry := { s.lrc.rail n with lastPoll := some number, bitmap := bitmap }
    OnlyLabels { s with lrc := { s.lrc with rails := tset s.lrc.rails n row } } (takeBitmap n number bitmap s) ∧
    (takeBitmap n number bitmap s).lrc.rail n = row ∧
    ∀ a e, s.lrc.entry a = some e →
      (takeBitmap n number bitmap s).lrc.entry a = some (if e.addr.rail = n then e.polled bitmap s.now else e) := by
  intro row
  let u : State := { s with lrc := { s.lrc with rails := tset s.lrc.rails n row } }
  let ks := (s.lrc.directory.filter fun e => e.addr.rail == n).map LabelEntry.key
  obtain ⟨hframe, hentry⟩ := entries_judged (g := fun now _ => LabelEntry.polled bitmap now) (judgePoll_step bitmap) ks u
  refine ⟨hframe, ?_, fun a e he => (hentry a).trans ?_⟩
  · have hrails := congrArg (·.lrc.rails) hframe
    exact (congrArg (fun v => tget v n RailEntry.cold) hrails).trans ((rail_tset (m := n) hn row s.lrc).trans (if_pos rfl))
  · change (s.lrc.entry a).map (LabelEntry.polled bitmap s.now)^[ks.count (addrKey a)] = _
    have hkeys : (s.lrc.directory.map LabelEntry.key).Nodup := List.pairwise_map.mpr (hord.1.imp fun hlt => hlt.ne)
    have hnd : ks.Nodup := hkeys.sublist (List.filter_sublist.map _)
    rw [he, Option.map_some]
    by_cases hrail : e.addr.rail = n
    · have hmem : addrKey a ∈ ks := List.mem_map.mpr
        ⟨e, List.mem_filter.mpr ⟨LabelRadio.mem_of_entry he, by simp [hrail]⟩, LabelRadio.addrKey_of_entry he⟩
      rw [List.count_eq_one_of_mem hnd hmem, if_pos hrail]
      rfl
    · have hmem : addrKey a ∉ ks := by
        intro h
        obtain ⟨x, hx, hk⟩ := List.mem_map.mp h
        obtain ⟨hxd, hxr⟩ := List.mem_filter.mp hx
        obtain rfl := LabelRadio.eq_of_key hord he hxd hk.symm
        exact hrail (by simpa using hxr)
      rw [List.count_eq_zero_of_not_mem hmem, if_neg hrail]
      rfl

theorem LabelEntry.polled_heard {bitmap : BitVec 24} {e : LabelEntry} (now : Nat) (hbit : bitmap.getLsbD e.addr.slot = true)
    (hs : e.state ≠ .sent) :
    (e.polled bitmap now).missed = 0 ∧ (e.polled bitmap now).lastHeard = some now ∧ (e.polled bitmap now).state ≠ .missing := by
  unfold polled
  rw [if_pos hbit]
  split
  · refine ⟨rfl, rfl, ?_⟩
    dsimp only
    split <;> exact nofun
  · next h => exact absurd h hs
  · next h _ => exact ⟨rfl, rfl, h⟩

theorem LabelEntry.polled_sent {bitmap : BitVec 24} {e : LabelEntry} (now : Nat) (hs : e.state = .sent) : e.polled bitmap now = e := by
  unfold polled
  rw [hs]
  exact ite_self e

end Sys2Proof.Machine

namespace Sys2Proof.Proofs
open Sys2Proof.Machine

/-- A frame's end: O39's first part. -/
theorem frameEnd_resolves (f : FrameInFlight) (s : State) (hrun : s.power = .running) (hf : s.lrc.frame = some f) :
    ∃ t, exec .radioFrameEnd s = .next t ∧
      t = { s with
        lrc := { s.lrc with directory := t.lrc.directory, queue := t.lrc.queue, nextSerial := t.lrc.nextSerial, frame := none, port := .ok }
        msp := { s.msp with reports := t.msp.reports } } ∧
      (∀ a e, t.lrc.entry a = some e → e.state ≠ .sent) ∧
      (∀ a e, s.lrc.entry a = some e → e.state ≠ .sent → t.lrc.entry a = some e) ∧
      (∀ a e l, s.lrc.entry a = some e → e.state = .sent → e.lastSend = some l →
        ∃ e', t.lrc.entry a = some e' ∧ e'.retries = e.retries + 1 ∧ e'.requeue = none ∧
          e'.state = (if s.lrc.retryLimit ≤ e.retries + 1 then .missing else .queued)) := by
  obtain ⟨hframe, hentry⟩ := endFrame_spec hf
  refine ⟨_, next_running (f := endFrame) rfl hrun, hframe, fun a e he => ?_, fun a e he hs => ?_, fun a e l he hs hl => ?_⟩
  · rw [hentry] at he
    obtain ⟨x, -, rfl⟩ := Option.map_eq_some_iff.mp he
    exact x.resolved_state _
  · rw [hentry, he, Option.map_some, LabelEntry.resolved_of_ne hs]
  · refine ⟨_, (hentry a).trans (by rw [he, Option.map_some]), ?_⟩
    unfold LabelEntry.resolved
    rw [if_pos hs, hl]
    dsimp only
    split <;> exact ⟨rfl, rfl, rfl⟩

/-- A failed hand-over: O39's second part. -/
theorem handoverFail_undoes (x : HandoverFailure) (f : FrameInFlight) (s : State) (hrun : s.power = .running) (hf : s.lrc.frame = some f)
    (hacc : f.accepted = false) (hnd : (f.grants.map fun g => addrKey g.addr).Nodup) :
    ∃ t, exec (.radioHandoverFail x) s = .next t ∧
      t = { s with
        lrc := { s.lrc with directory := t.lrc.directory, queue := t.lrc.queue, frame := none, port := HandoverFailure.port x }
        msp := t.msp } ∧
      (∀ g ∈ f.grants, ∀ e, s.lrc.entry g.addr = some e → e.state = .sent →
        ∃ e', t.lrc.entry g.addr = some e' ∧ e'.state = g.oldState ∧ e'.lastSend = g.oldSend ∧ e'.requeue = none ∧ e'.item = e.item ∧
          (e.requeue = none → e'.owed = e.owed)) ∧
      t.msp = if s.lrc.port = t.lrc.port then s.msp else
        (s.logFault .label (handoverFault f.number x).1 (handoverFault f.number x).2).msp := by
  obtain ⟨hframe, hin, -⟩ := undoAll_spec f.grants hnd s.lrc
  have hentry : ∀ g ∈ f.grants, ∀ e, s.lrc.entry g.addr = some e → e.state = .sent →
      ∃ e', (f.grants.foldl (fun l g => l.undo g) s.lrc).entry g.addr = some e' ∧ e'.state = g.oldState ∧ e'.lastSend = g.oldSend ∧
        e'.requeue = none ∧ e'.item = e.item ∧ (e.requeue = none → e'.owed = e.owed) := by
    intro g hg e he hs
    have hgone : (s.lrc.entry g.addr).map (LabelEntry.undone g) = some
        { e with state := g.oldState, owed := raiseOpt e.owed e.requeue, requeue := none, lastSend := g.oldSend } := by
      rw [he, Option.map_some, LabelEntry.undone, if_pos hs]
    refine ⟨_, (hin g hg).trans hgone, rfl, rfl, rfl, rfl, fun hq => ?_⟩
    dsimp only
    rw [hq]
    rfl
  have hstep : handoverFails x s = failHandover x f s := by simp [handoverFails, hf, hacc]
  refine ⟨_, (next_running (f := handoverFails x) rfl hrun).trans (congrArg _ hstep), ?_⟩
  rw [failHandover_eq]
  generalize f.grants.foldl (fun l g => l.undo g) s.lrc = m at hframe hentry
  by_cases hport : s.lrc.port = HandoverFailure.port x
  · rw [if_pos hport]
    refine ⟨?_, hentry, (if_pos hport).symm⟩
    rw [hframe]
  · rw [if_neg hport]
    refine ⟨?_, hentry, ?_⟩
    · rw [hframe]
      rfl
    · exact Eq.trans rfl (if_neg hport).symm

/-- A poll's answer: O39's third part. -/
theorem pollAnswer_judges (bitmap : BitVec 24) (f : FrameInFlight) (n : Nat) (s : State) (hrun : s.power = .running)
    (hf : s.lrc.frame = some f) (hrail : f.rail = some n) (hn : n ≤ 1023) (hpolled : f.polled = false) (hord : s.labelsOrdered) :
    ∃ t, exec (.railPollAnswer bitmap) s = .next t ∧
      t.lrc.frame = some { f with accepted := true, polled := true } ∧ t.lrc.port = .ok ∧
      t.lrc.rail n = { s.lrc.rail n with lastPoll := some f.number, bitmap := bitmap } ∧
      ∀ a e, s.lrc.entry a = some e → t.lrc.entry a = some (if e.addr.rail = n then e.polled bitmap s.now else e) := by
  let u : State := { s with lrc := { s.lrc with frame := some { f with accepted := true, polled := true }, port := .ok } }
  obtain ⟨hframe, hrow, hentry⟩ := takeBitmap_spec (s := u) f.number bitmap (Nat.lt_succ_of_le hn) hord
  have hstep : pollAnswer bitmap s = takeBitmap n f.number bitmap u := by
    have haccept : s.onLrc (·.accept true f) = u := by simp only [State.onLrc, LabelRadio.accept, Bool.or_true]; rfl
    simp only [pollAnswer, hf, haccept]
    rw [hrail]
    exact if_neg (by simp [hpolled])
  exact ⟨_, (next_running (f := pollAnswer bitmap) rfl hrun).trans (congrArg _ hstep), congrArg (·.lrc.frame) hframe,
    congrArg (·.lrc.port) hframe, hrow, hentry⟩

/-- Settles O39, in its three parts. -/
theorem frameEndsLeaveNoLabelSent : Obligations.FrameEndsLeaveNoLabelSent := by
  refine ⟨frameEnd_resolves, fun x f s hrun hf hacc hnd => ?_, fun bitmap f n s hrun hf hrail hn hpolled hord => ?_⟩
  · obtain ⟨t, hexec, hframe, hentry, hmsp⟩ := handoverFail_undoes x f s hrun hf hacc hnd
    cases x <;> exact ⟨t, hexec, hframe, hentry, hmsp⟩
  · obtain ⟨t, hexec, hframe, hport, hrow, hentry⟩ := pollAnswer_judges bitmap f n s hrun hf hrail hn hpolled hord
    refine ⟨t, hexec, hframe, hport, hrow, fun a e he h => ?_, fun a e he hr hs hbit => ?_, fun a e he hr hs hm hbit => ?_⟩
    · rw [hentry a e he]
      split
      · next hr => rw [LabelEntry.polled_sent s.now (h.resolve_left (not_not_intro hr))]
      · rfl
    · exact ⟨_, (hentry a e he).trans (by rw [if_pos hr]), e.polled_heard s.now hbit hs⟩
    · exact ⟨_, (hentry a e he).trans (by rw [if_pos hr, LabelEntry.polled_counted s.now hbit hm hs]), rfl, rfl⟩

end Sys2Proof.Proofs
end

section
/-! The Message Port's own events and the clock: reads, immediate refusals, frame errors, RESET, ticks and jumps (R179 to R182, R187,
R190). -/

namespace Sys2Proof.Machine

variable {s t : State}

/-! ### What the host reads -/

theorem hostReads_reply {r : ReadyReply} {rest : List ReadyReply} (h : s.msp.replies = r :: rest) : hostReads s = readReply r rest s := by
  simp only [hostReads, h]

theorem hostReads_report {r : Report} {rest : List Report} (h : s.msp.replies = []) (hr : s.msp.reports = r :: rest) :
    hostReads s = sendHost (.report r) { s with msp := { s.msp with reports := rest } } := by
  simp only [hostReads, h, hr]

theorem hostReads_empty (h : s.msp.replies = []) (hr : s.msp.reports = []) : hostReads s = sendHost .empty s := by
  simp only [hostReads, h, hr]

theorem readReply_plain {r : ReadyReply} (rest : List ReadyReply) (h : r.place ≠ .resetRequest) :
    readReply r rest s = sendHost (.reply r.tag r.reply) { s with msp := { s.msp with replies := rest } } := by
  simp [readReply, h]

/-- The host has read a RESET's reply: the start begins (R190). -/
theorem readReply_reset {r : ReadyReply} {k : ResetKind} (rest : List ReadyReply) (h : r.place = .resetRequest)
    (hk : s.msp.resetTaken = some k) :
    readReply r rest s =
      { sendHost (.reply r.tag r.reply) { s with msp := { s.msp with replies := rest } } with power := .resetting k } := by
  have htaken : (sendHost (.reply r.tag r.reply) { s with msp := { s.msp with replies := rest } }).msp.resetTaken = some k := hk
  simp only [readReply, h, if_true, beginReset, htaken]

/-! ### A part that is not running takes no frames -/

theorem takesFrames_iff : s.takesFrames = true ↔ s.power = .running := by simp [State.takesFrames]

theorem identify_deaf (tag : Nat) (h : s.takesFrames = false) : exec (.identify tag true) s = .next s :=
  congrArg Host.Outcome.next (hostRequest_deaf tag _ h)

theorem unknownKind_deaf (tag kind : Nat) (h : s.takesFrames = false) : exec (.unknownKind tag kind) s = .next s :=
  congrArg Host.Outcome.next (if_neg (by rw [h]; exact Bool.false_ne_true))

theorem frameError_deaf (cause : FrameErrorCause) (h : s.takesFrames = false) : exec (.frameError cause) s = .next s :=
  congrArg Host.Outcome.next (if_neg (by rw [h]; exact Bool.false_ne_true))

theorem refuseAtOnce_room (tag : Nat) (reason : RefuseReason) (h : s.msp.immediates < 8) :
    s.refuseAtOnce tag reason = s.addReply tag .immediate (.refused reason .noDetail) := if_pos h

/-! ### Frame errors -/

/-- Every FRAME-ERROR report is brought up to date (R179). -/
theorem updateFrameError_body {c : FrameErrorCause} {n : Nat} {q : List Report} {r : Report} (h : r ∈ updateFrameError c n q)
    (hr : r.body.isFrameError = true) : r.body = .frameError c n := by
  obtain ⟨x, -, rfl⟩ := List.mem_map.mp h
  cases hx : x.body <;> simp_all [ReportBody.isFrameError]

theorem frameErrorSeen_frame (c : FrameErrorCause) (s : State) :
    s.frameErrorSeen c = { s with msp := { s.msp with
      frameErrors := bump max32 s.msp.frameErrors, reports := (s.frameErrorSeen c).msp.reports } } := by
  unfold State.frameErrorSeen
  dsimp only
  split
  · rfl
  · rfl

theorem frameErrorSeen_first (c : FrameErrorCause) (h : ∀ r ∈ s.msp.reports, r.body.isFrameError = false) :
    (s.frameErrorSeen c).msp.reports = queueReport s.now (.frameError c (bump max32 s.msp.frameErrors)) s.msp.reports := by
  have hnone : ¬ (s.msp.reports.any fun r => r.body.isFrameError) = true := by
    rw [List.any_eq_true]
    rintro ⟨r, hr, hf⟩
    rw [h r hr] at hf
    exact Bool.false_ne_true hf
  unfold State.frameErrorSeen
  dsimp only
  rw [if_neg hnone]
  rfl

theorem frameErrorSeen_again (c : FrameErrorCause) (h : ∃ r ∈ s.msp.reports, r.body.isFrameError = true) :
    (s.frameErrorSeen c).msp.reports = updateFrameError c (bump max32 s.msp.frameErrors) s.msp.reports := by
  unfold State.frameErrorSeen
  dsimp only
  rw [if_pos (List.any_eq_true.mpr h)]

/-! ### The clock -/

theorem tick_moves (h : s.power = .running) (hmax : s.now < max32) :
    tick s = { s with
      msp := { s.msp with clock := ⟨s.now + 1, s.msp.clock.isSet, s.elapsed + 1⟩ }, lrc := { s.lrc with frameDue := true } } := by
  have hbump : bump max32 s.now = s.now + 1 := if_pos hmax
  unfold tick
  dsimp only
  rw [if_pos ⟨decide_eq_true hmax, h⟩, hbump]
  rfl

theorem tick_stands (hmax : s.now = max32) :
    tick s = { s with msp := { s.msp with clock := ⟨s.now, s.msp.clock.isSet, s.elapsed + 1⟩ } } := by
  have hbump : bump max32 s.now = s.now := by rw [bump, if_neg (by omega), hmax]
  unfold tick
  dsimp only
  rw [if_neg (by rintro ⟨h, -⟩; exact absurd (of_decide_eq_true h) (by omega)), hbump]

/-! ### What a cutover writes -/

/-- A cutover writes the epoch and the pending batch, the tills, the labels' states, the templates, the exchange and the reports, and
nothing else. -/
def CutoverWrites (s t : State) : Prop :=
  t = { s with
    itb := { s.itb with epoch := t.itb.epoch, pendingBatch := t.itb.pendingBatch }
    tsu := t.tsu
    lrc := { s.lrc with directory := t.lrc.directory, queue := t.lrc.queue, nextSerial := t.lrc.nextSerial }
    tps := t.tps, xce := t.xce
    msp := { s.msp with reports := t.msp.reports } }

theorem CutoverWrites.refl (s : State) : CutoverWrites s s := rfl

theorem CutoverWrites.trans {s t u : State} (h : CutoverWrites s t) (g : CutoverWrites t u) : CutoverWrites s u := by
  unfold CutoverWrites at h g ⊢
  rw [h] at g
  exact g

theorem cutoverWrites_onCutover (f : Cutover → Cutover) : CutoverWrites s (s.onCutover f) := rfl

theorem cutoverWrites_holdLanes : CutoverWrites s (holdLanes s) := by
  have h := (holdLanes_spec s).1
  generalize holdLanes s = t at *
  rw [h]
  rfl

theorem cutoverWrites_tryStaging : CutoverWrites s (tryStaging s) := by
  have h := tryStaging_frame s
  generalize tryStaging s = t at *
  rw [h]
  rfl

theorem cutoverWrites_finishCutover : CutoverWrites s (finishCutover s) := by
  rw [finishCutover_eq]
  refine CutoverWrites.trans ?_ cutoverWrites_tryStaging
  have h := (finished_spec s).1
  rw [advanceEpoch_eq] at h
  generalize finished s = t at *
  rw [h]
  rfl

theorem cutoverWrites_proceedDrain : CutoverWrites s (proceedDrain s) := by
  unfold proceedDrain
  split
  · split
    · exact cutoverWrites_onCutover _
    · exact cutoverWrites_finishCutover
  · exact .refl s

theorem cutoverWrites_endDrain (how : DrainEnd) : CutoverWrites s (endDrain how s) := by
  unfold endDrain
  split
  · exact (cutoverWrites_onCutover _).trans cutoverWrites_proceedDrain
  · exact .refl s

theorem cutoverWrites_drainEmpty : CutoverWrites s (drainEmpty s) := by
  unfold drainEmpty
  split
  · exact cutoverWrites_endDrain _
  · exact .refl s

theorem cutoverWrites_startCutover (tag limit : Nat) : CutoverWrites s (startCutover tag limit s) :=
  (cutoverWrites_onCutover _).trans (cutoverWrites_holdLanes.trans cutoverWrites_drainEmpty)

theorem cutoverWrites_scheduleDue : CutoverWrites s (scheduleDue s) := by
  unfold scheduleDue
  dsimp only
  split
  · split
    · exact cutoverWrites_startCutover _ _
    · exact .refl s
  · exact .refl s

/-! ### What a jump of the clock passes over (R187) -/

/-- A session after its idle, expiry and cooldown-end events, each taken if due. -/
def GuestSession.afterEvents (now limit : Nat) (g : GuestSession) : GuestSession :=
  ((g.afterIdle now limit).afterExpiry now).afterCooldown now

theorem guestEvents_step (hw : HwAddr) (s : State) :
    SessionStep (fun s => takeCooldownEnd hw (takeExpiry hw (takeIdle hw s))) hw (·.afterEvents s.now s.gat.idleLimit) s := by
  have hidle := takeIdle_step hw s
  have hexpiry := takeExpiry_step hw (takeIdle hw s)
  have hcool := takeCooldownEnd_step hw (takeExpiry hw (takeIdle hw s))
  obtain ⟨ss, full, hframe⟩ := hidle.frame
  obtain ⟨ss', full', hframe'⟩ := hexpiry.frame
  have hnow : (takeIdle hw s).now = s.now := by rw [hframe]; rfl
  have hnow' : (takeExpiry hw (takeIdle hw s)).now = s.now := by rw [hframe']; exact hnow
  rw [hnow] at hexpiry
  rw [hnow'] at hcool
  exact (hidle.comp hexpiry).comp hcool

theorem takeAllGuestEvents_spec (s : State) :
    (∃ ss full, takeAllGuestEvents s = { s with gat := { s.gat with sessions := ss, fullArmed := full } }) ∧
    ∀ hw g, (takeAllGuestEvents s).guest hw = some g → ∃ x, g = GuestSession.afterEvents s.now s.gat.idleLimit x :=
  allSessions_judged (judged := fun now limit g => g.afterEvents now limit) guestEvents_step s

theorem GuestSession.expiryDue_afterExpiry (now : Nat) (g : GuestSession) : (g.afterExpiry now).expiryDue now = false := by
  unfold afterExpiry
  split
  · rfl
  · next h => exact Bool.eq_false_iff.mpr h

theorem GuestSession.expiryDue_afterCooldown (now : Nat) (g : GuestSession) : (g.afterCooldown now).expiryDue now = g.expiryDue now := by
  unfold afterCooldown
  split <;> rfl

/-- After a session's events are taken it stands past no expiry (R142). -/
theorem GuestSession.before_expiry {now limit e : Nat} {x g : GuestSession} (hg : g = x.afterEvents now limit)
    (hstate : g.state = .admitted ∨ g.state = .idle ∨ g.state = .throttled) (he : g.expiresAt = some e) : now < e := by
  have hdue : g.expiryDue now = false := by
    rw [hg, GuestSession.afterEvents, GuestSession.expiryDue_afterCooldown]
    exact GuestSession.expiryDue_afterExpiry now _
  rcases hstate with h | h | h <;> simpa [GuestSession.expiryDue, h, he] using hdue

/-- A jump writes neither the journal nor the queues to the WAN, and takes every guest event and lag report it passes over. -/
theorem passInstants_spec (s : State) :
    let t := passInstants s
    t.msp.clock = s.msp.clock ∧ t.msp.replies = s.msp.replies ∧ t.lrc.frameDue = s.lrc.frameDue ∧ t.jnl = s.jnl ∧ t.uls = s.uls ∧
    (∀ hw g, t.guest hw = some g → ∃ x, g = GuestSession.afterEvents s.now s.gat.idleLimit x) ∧
    ∀ c r, t.item c = some r → r.lagDue s.now t.itb.lagLimit = false := by
  have hlags := judgeAllLags_frame (uncool s)
  have hdue := fun {c r} => judgeAllLags_notDue (s := uncool s) (c := c) (r := r)
  obtain ⟨⟨ss, full, hevents⟩, hjudged⟩ := takeAllGuestEvents_spec (judgeAllLags (uncool s))
  have hsched := cutoverWrites_scheduleDue (s := takeAllGuestEvents (judgeAllLags (uncool s)))
  unfold passInstants
  unfold CutoverWrites at hsched
  dsimp only
  generalize scheduleDue _ = t at *
  generalize judgeAllLags (uncool s) = u at *
  rw [hevents] at hsched hjudged
  have hclock : u.msp.clock = s.msp.clock := by rw [hlags]; rfl
  have hnow : u.now = s.now := congrArg (·.reading) hclock
  have hgat : u.gat.idleLimit = s.gat.idleLimit := by rw [hlags]; rfl
  have hgat' : t.gat = { u.gat with sessions := ss, fullArmed := full } := by rw [hsched]
  have hitems : t.itb.items = u.itb.items := by rw [hsched]
  have hlimit : t.itb.lagLimit = s.itb.lagLimit := by rw [hsched, hlags]; rfl
  refine ⟨?_, ?_, ?_, ?_, ?_, fun hw g hg => ?_, fun c r hr => ?_⟩
  · rw [hsched]; exact hclock
  · rw [hsched, hlags]; rfl
  · rw [hsched, hlags]; rfl
  · rw [hsched, hlags]; rfl
  · rw [hsched, hlags]; rfl
  · rw [← hnow, ← hgat]
    refine hjudged hw g ?_
    rw [← hg, State.guest, State.guest, hgat']
  · rw [hlimit]
    refine hdue (c := c) ?_
    rw [← hr, State.item, State.item, hitems]

end Sys2Proof.Machine

namespace Sys2Proof.Proofs
open Sys2Proof.Machine

/-- Settles O57: each of the port's events by the queue it meets. -/
theorem portReadsRefusesAndResets : Obligations.PortReadsRefusesAndResets := by
  intro tag s hrun
  have htakes : s.takesFrames = true := takesFrames_iff.mpr hrun
  refine ⟨fun r rest hq hplace => ?_, fun r rest k hq hplace hk => ?_, fun r rest hq hr => ?_, fun hq hr => ?_, fun kind hroom => ?_,
    fun hroom hbusy => ?_, fun cause => ?_, fun k r htake hkind => ?_⟩
  · rw [next_running (f := hostReads) rfl hrun, hostReads_reply hq, readReply_plain rest hplace]
    rfl
  · refine ⟨_, next_running (f := hostReads) rfl hrun, ?_, fun u x cause => ?_⟩
    · rw [hostReads_reply hq, readReply_reset rest hplace hk]
      rfl
    · have hdeaf : (hostReads s).takesFrames = false := by
        rw [hostReads_reply hq, readReply_reset rest hplace hk]
        rfl
      exact ⟨identify_deaf u hdeaf, unknownKind_deaf u x hdeaf, frameError_deaf cause hdeaf⟩
  · rw [next_running (f := hostReads) rfl hrun, hostReads_report hq hr]
    rfl
  · rw [next_running (f := hostReads) rfl hrun, hostReads_empty hq hr]
    rfl
  · exact congrArg Host.Outcome.next ((if_pos htakes).trans (refuseAtOnce_room tag .unknownKind hroom))
  · exact congrArg Host.Outcome.next ((hostRequest_busy tag _ htakes (by omega)).trans (refuseAtOnce_room tag .busy hroom))
  · refine ⟨_, congrArg Host.Outcome.next (if_pos htakes), frameErrorSeen_frame cause s, fun hnone => ?_, fun hsome => ?_⟩
    · rw [frameErrorSeen_first cause hnone, frameErrorSeen_frame]
    · rw [frameErrorSeen_again cause hsome, frameErrorSeen_frame]
      exact ⟨updateFrameError_length .., fun r hr hf => updateFrameError_body hr hf⟩
  · have hframe : exec (.reset tag (some k)) s = .next (takeReset tag r s) := by
      refine congrArg Host.Outcome.next ?_
      simp only [resetFrame, Option.bind_some, hkind, htake, if_true]
    refine ⟨_, hframe, rfl, fun u hroom => ?_⟩
    have hcount : (takeReset tag r s).msp.unreplied = s.msp.unreplied + 1 := by
      simp [takeReset, State.addReply, MessagePort.unreplied]
    exact next_taken (f := withoutBody true identify) rfl (canTake_iff.mpr ⟨hrun, by omega⟩) rfl

/-- Settles O58: the tick by the clock's reading, and CLOCK-SET by the instants it passes over. -/
theorem clockTicksAndJumps : Obligations.ClockTicksAndJumps := by
  refine ⟨fun s hrun => ⟨fun hlt => congrArg Host.Outcome.next (tick_moves hrun hlt), fun hmax => congrArg Host.Outcome.next (tick_stands hmax)⟩,
    fun tag n s htake => ?_⟩
  obtain ⟨hclock, hreplies, hdue, hjnl, huls, hguests, hitems⟩ := passInstants_spec (setClock n s)
  refine ⟨_, next_taken (f := withBody (some n) clockSet) rfl htake (t := passInstants (setClock n s)) rfl, hclock, ?_, hdue, hjnl, huls,
    fun _ hw g hg hstate x hx => ?_, fun _ => hitems⟩
  · rw [addReply_replies, hreplies]
    rfl
  · obtain ⟨y, hy⟩ := hguests hw g hg
    exact GuestSession.before_expiry hy hstate hx

end Sys2Proof.Proofs
end

section
/-! The three kinds of start and the loss of main power: the cold-start values, the retained check, and what a warm start keeps (R188 to
R190). -/

namespace Sys2Proof.Machine

variable {s t : State}

/-! ### Cold-start values -/

theorem eq_of_mem_replicate {α : Type} {n : Nat} {a x : α} (h : x ∈ (Vector.replicate n a).toList) : x = a :=
  Vector.eq_of_mem_replicate (Vector.mem_toList_iff.mp h)

theorem coldSlot_zero : TemplateStore.cold.slot 0 = ⟨.defined, some baseLayout, 1, some .permanent⟩ :=
  (tget_tset _ 0 0 _ _).trans (if_pos ⟨rfl, by decide⟩)

theorem coldSlot_succ {n : Nat} (h : 1 ≤ n) : TemplateStore.cold.slot n = TemplateSlot.cold :=
  (tget_tset _ 0 n _ _).trans ((if_neg fun h0 => by omega).trans (tget_replicate ..))

/-- The cells of the Policy Matrix that are ALLOW after a cold start (R122). -/
def coldAllowed : List (Zone × Zone) :=
  [(.store, .store), (.store, .till), (.store, .headoffice), (.store, .internet), (.till, .store), (.till, .headoffice), (.till, .payment),
   (.guest, .internet), (.headoffice, .store), (.headoffice, .till), (.payment, .till), (.internet, .store), (.internet, .guest)]

theorem coldCell (x y : Zone) : Forwarder.cold.cell x y = if (x, y) ∈ coldAllowed then .allow else .deny := by
  cases x <;> cases y <;> decide

theorem coldFifo (p : BranchPort) : Forwarder.cold.fifo p = [] := by cases p <;> rfl

theorem coldQueue (c : UplinkClass) : Uplink.cold.queue c = ClassQueue.cold := by cases c <;> rfl

theorem coldFault (d : FaultDomain) : (State.reset.msp.faultRecord d) = FaultRecord.clear := by cases d <;> rfl

/-! ### The retained check (R188) -/

/-- The check word brings a word sum to 0, modulo 65,536. -/
theorem checkFor_spec (n : Nat) : checkFor n < 65536 ∧ (n + checkFor n) % 65536 = 0 := by
  unfold checkFor
  omega

theorem evaluateCheck_absent {memory : RetainedMemory} (h : s.msp.checkWritten = false ∨ memory = .lost) :
    evaluateCheck memory s = .absent := by
  unfold evaluateCheck
  rcases h with h | h
  · rw [h]
  · rw [h]
    cases s.msp.checkWritten <;> rfl

theorem evaluateCheck_damaged (part : RetainedPart) (h : s.msp.checkWritten = true) : evaluateCheck (.damaged part) s = .failed part := by
  unfold evaluateCheck
  rw [h]

theorem evaluateCheck_kept (h : s.msp.checkWritten = true) : evaluateCheck .kept s = .passed := by
  unfold evaluateCheck
  rw [h]

theorem checkedStart_absent {kind : StartKind} {cause : StartCause} {memory : RetainedMemory} (mem : MemFaults)
    (h : s.msp.checkWritten = false ∨ memory = .lost) : checkedStart kind cause memory mem s = coldStart cause .absent none s := by
  rw [checkedStart, evaluateCheck_absent h]

theorem checkedStart_damaged (kind : StartKind) (cause : StartCause) (part : RetainedPart) (mem : MemFaults) (h : s.msp.checkWritten = true) :
    checkedStart kind cause (.damaged part) mem s = coldStart cause .failed (some part) s := by
  rw [checkedStart, evaluateCheck_damaged part h]

theorem checkedStart_kept (kind : StartKind) (cause : StartCause) (mem : MemFaults) (h : s.msp.checkWritten = true) :
    checkedStart kind cause .kept mem s = warmStart kind cause mem s := by
  rw [checkedStart, evaluateCheck_kept h]

theorem powerOn_off (memory : RetainedMemory) (mem : MemFaults) (h : s.power = .off) :
    exec (.powerOn memory mem) s = .next (checkedStart .warm .power memory mem s) := congrArg Host.Outcome.next (if_pos h)

theorem resetRequest_warm (memory : RetainedMemory) (mem : MemFaults) (h : s.power = .resetting .warm) :
    exec (.resetRequest memory mem) s = .next (checkedStart .resetWarm .resetWarm memory mem s) := by
  refine congrArg Host.Outcome.next ?_
  rw [requestedStart, h]

theorem resetRequest_cold (memory : RetainedMemory) (mem : MemFaults) (h : s.power = .resetting .cold) :
    exec (.resetRequest memory mem) s = .next (coldStart .resetCold .notChecked none s) := by
  refine congrArg Host.Outcome.next ?_
  rw [requestedStart, h]

/-! ### The head of the Report Queue stays (R183) -/

/-- A report arrives behind the head. -/
theorem queueReport_head {now : Nat} {b : ReportBody} {q : List Report} {r : Report} (h : q.head? = some r) :
    (queueReport now b q).head? = some r := by
  have hdrop (x : Report) (hlen : ¬ q.length < 64) : (q.dropLast ++ [x]).head? = some r := by
    have hne : q.dropLast ≠ [] := fun h0 => by
      have := congrArg List.length h0
      rw [List.length_dropLast, List.length_nil] at this
      omega
    rw [List.head?_append_of_ne_nil _ hne, List.head?_dropLast, if_pos (by omega), h]
  unfold queueReport
  split
  · rw [List.head?_append, h, Option.some_or]
  · next hlen =>
    split
    · exact hdrop _ hlen
    · exact hdrop _ hlen

theorem judgeAllLags_head {r : Report} (h : s.msp.reports.head? = some r) : (judgeAllLags s).msp.reports.head? = some r := by
  unfold judgeAllLags
  generalize s.itb.items.map (·.code) = codes
  induction codes generalizing s with
  | nil => exact h
  | cons c codes ih =>
    refine ih (s := judgeLag c s) ?_
    unfold judgeLag
    split
    · exact h
    · split
      · exact queueReport_head h
      · exact h

/-! ### The tills begin to serve (R42, R63) -/

/-- What the RESTART abandons leave as it was: nothing is written but tills, journal and Message Port; the upload mark and limit, the
replies, the head report and every basket's sequence stay, and no till becomes present. -/
structure ServesTills (s t : State) : Prop where
  frame : t = { s with
    tsu := { s.tsu with sessions := t.tsu.sessions, baskets := t.tsu.baskets }
    jnl := t.jnl, msp := t.msp, free := t.free }
  mark : t.jnl.mark = s.jnl.mark
  limit : t.jnl.limit = s.jnl.limit
  port : t.msp.replies = s.msp.replies ∧ t.msp.clock = s.msp.clock ∧ t.msp.checkWritten = s.msp.checkWritten
  head : ∀ r, s.msp.reports.head? = some r → t.msp.reports.head? = some r
  sequence : ∀ lane, (t.basket lane).sequence = (s.basket lane).sequence
  absent : (∀ lane, (s.session lane).state = .absent) → ∀ lane, (t.session lane).state = .absent

theorem ServesTills.refl (s : State) : ServesTills s s := ⟨rfl, rfl, rfl, ⟨rfl, rfl, rfl⟩, fun _ => id, fun _ => rfl, id⟩

theorem ServesTills.trans {s t u : State} (h : ServesTills s t) (g : ServesTills t u) : ServesTills s u where
  frame := by rw [g.frame, h.frame]
  mark := g.mark.trans h.mark
  limit := g.limit.trans h.limit
  port := ⟨g.port.1.trans h.port.1, g.port.2.1.trans h.port.2.1, g.port.2.2.trans h.port.2.2⟩
  head r hr := g.head r (h.head r hr)
  sequence lane := (g.sequence lane).trans (h.sequence lane)
  absent ha := g.absent (h.absent ha)

/-- A step that writes the journal's records, pointers and flags alone. -/
theorem serves_jnl (j : Journal) (hm : j.mark = s.jnl.mark) (hl : j.limit = s.jnl.limit) : ServesTills s { s with jnl := j } :=
  ⟨rfl, hm, hl, ⟨rfl, rfl, rfl⟩, fun _ => id, fun _ => rfl, id⟩

theorem serves_report (b : ReportBody) : ServesTills s (s.report b) :=
  ⟨rfl, rfl, rfl, ⟨rfl, rfl, rfl⟩, fun _ h => queueReport_head h, fun _ => rfl, id⟩

theorem serves_logFault (d : FaultDomain) (code : Nat) (x : FaultDetail) : ServesTills s (s.logFault d code x) := by
  refine .trans (t := { s with msp := s.msp.setFaultRecord d ((s.msp.faultRecord d).log code s.now x) }) ?_ (serves_report _)
  cases d <;> exact ⟨rfl, rfl, rfl, ⟨rfl, rfl, rfl⟩, fun _ => id, fun _ => rfl, id⟩

theorem serves_checkPage (mem : MemFaults) (r : JournalRecord) (i : Nat) : ServesTills s (checkPage mem r i s) := by
  unfold checkPage
  dsimp only
  split
  · exact (serves_logFault _ _ _).trans (serves_jnl _ rfl rfl)
  · exact serves_jnl _ rfl rfl

theorem serves_reclaimOne (mem : MemFaults) : ServesTills s (reclaimOne mem s) := by
  unfold reclaimOne
  split
  · exact .refl s
  · exact (serves_checkPage mem _ 0).trans (serves_jnl _ rfl rfl)

theorem serves_reclaim (mem : MemFaults) (need fuel : Nat) : ServesTills s (reclaim mem need fuel s) := by
  induction fuel generalizing s with
  | zero => exact .refl s
  | succ fuel ih =>
    unfold reclaim
    split
    · exact .refl s
    · exact (serves_reclaimOne mem).trans ih

theorem serves_judgeHighWater : ServesTills s (judgeHighWater s) := by
  unfold judgeHighWater
  split
  · exact (serves_jnl { s.jnl with highArmed := false } rfl rfl).trans (serves_report _)
  · exact .refl s

theorem serves_writeRecord (c : JournalContent) : ServesTills s (writeRecord c s) := serves_jnl _ rfl rfl

theorem serves_acceptAppend (mem : MemFaults) (c : JournalContent) : ServesTills s (acceptAppend mem c s) :=
  ((serves_reclaim mem _ _).trans (serves_writeRecord c)).trans serves_judgeHighWater

theorem serves_refuseAppend (c : JournalContent) : ServesTills s (refuseAppend c s) := by
  unfold refuseAppend
  dsimp only
  split
  · exact (serves_jnl { s.jnl with fullRefusals := bump max16 s.jnl.fullRefusals, fullArmed := false } rfl rfl).trans (serves_report _)
  · exact serves_jnl _ rfl rfl

theorem serves_journalAppend (mem : MemFaults) (c : JournalContent) : ServesTills s (journalAppend mem c s).1 := by
  by_cases h : s.jnl.fits c = true
  · rw [journalAppend_accepted mem c h]
    exact serves_acceptAppend mem c
  · rw [journalAppend_refused mem c (by simpa using h)]
    exact serves_refuseAppend c

theorem serves_basketTillId (lane : Nat) : ServesTills s (basketTillId lane s).2 := by
  unfold basketTillId
  split
  · exact .refl s
  · exact ⟨rfl, rfl, rfl, ⟨rfl, rfl, rfl⟩, fun _ => id, fun _ => rfl, id⟩

theorem serves_appendAbandon (mem : MemFaults) (cause : AbandonCause) (lane : Nat) : ServesTills s (appendAbandon mem cause lane s).1 := by
  have h (c : JournalContent) := (serves_basketTillId (s := s) lane).trans (serves_journalAppend mem c)
  unfold appendAbandon
  dsimp only
  split
  · next heq => exact (congrArg (ServesTills s ·.1) heq).mp (h _)
  · next heq => exact (congrArg (ServesTills s ·.1) heq).mp (h _)

theorem serves_setBasket {lane : Nat} {b : Basket} (h : b.sequence = (s.basket lane).sequence) : ServesTills s (s.setBasket lane b) := by
  refine ⟨rfl, rfl, rfl, ⟨rfl, rfl, rfl⟩, fun _ => id, fun l => ?_, id⟩
  rw [basket_setBasket]
  split
  · next hl => rw [h, State.basket, hl.1, State.basket]
  · rfl

/-- Where no till is present a settle does nothing. -/
theorem serves_settle (lane : Nat) : ServesTills s (settle lane s) := by
  unfold settle
  dsimp only
  split
  · next hp => exact ⟨rfl, rfl, rfl, ⟨rfl, rfl, rfl⟩, fun _ => id, fun _ => rfl, fun ha => by rw [ha lane] at hp; cases hp⟩
  · exact .refl s

theorem serves_closeQuietly (lane : Nat) : ServesTills s (closeQuietly lane s) :=
  .trans (t := s.setBasket lane (s.basket lane).closed) (serves_setBasket rfl) (serves_settle lane)

theorem serves_markAbandonDue (cause : AbandonCause) (lane : Nat) : ServesTills s (markAbandonDue cause lane s) := serves_setBasket rfl

theorem serves_restartAbandon (mem : MemFaults) (lane : Nat) : ServesTills s (restartAbandon mem lane s) := by
  have h := serves_appendAbandon (s := s) mem .restart lane
  unfold restartAbandon
  split
  · split
    · next heq =>
      rw [heq] at h
      exact h.trans (serves_closeQuietly lane)
    · next heq =>
      rw [heq] at h
      exact h.trans (serves_markAbandonDue .restart lane)
  · exact .refl s

theorem serves_restartAbandons (mem : MemFaults) (ls : List Nat) : ServesTills s (ls.foldl (fun s l => restartAbandon mem l s) s) := by
  induction ls generalizing s with
  | nil => exact .refl s
  | cons l ls ih => exact (serves_restartAbandon mem l).trans ih

/-- With no hold in force the tills are served at once (R42, R63). -/
theorem serveTills_free (mem : MemFaults) (h : s.tsu.hold = false) :
    ∃ t, ServesTills s t ∧ serveTills mem s = { t with tsu := { t.tsu with serving := true } } := by
  have hserves := serves_restartAbandons (s := s) mem lanes
  refine ⟨_, hserves, drainEmpty_free ?_⟩
  rw [hserves.frame]
  exact h

/-! ### The blocks after a warm start (R63, R103, R117) -/

theorem warm_absent (kind : StartKind) (cause : StartCause) (lane : Nat) : ((warmBlocks kind cause s).session lane).state = .absent :=
  congrArg Session.state (tget_replicate 64 (lane - 1) Session.cold)

theorem warm_sequence (kind : StartKind) (cause : StartCause) (lane : Nat) :
    ((warmBlocks kind cause s).basket lane).sequence = (s.basket lane).sequence := by
  unfold warmBlocks TillService.warm
  simp only [State.basket, tget, Vector.getElem?_map]
  cases s.tsu.baskets[lane - 1]? <;> rfl

theorem joins_frame (now : Nat) (es : List LabelEntry) (l : LabelRadio) :
    let m := es.foldl (fun l e => l.join now e.addr (e.owed.getD .bind) .first) l
    m = { l with queue := m.queue, nextSerial := m.nextSerial } := by
  induction es generalizing l with
  | nil => rfl
  | cons e es ih => exact ih (l.join now e.addr (e.owed.getD .bind) .first)

theorem LabelRadio.warm_frame (now : Nat) (l : LabelRadio) : l.warm now = { l with
    directory := l.directory.map (·.warm), queue := (l.warm now).queue, nextSerial := (l.warm now).nextSerial
    port := .ok, stale := 0, frame := none, frameDue := true } := joins_frame now _ _

theorem LabelEntry.warm_notSent (e : LabelEntry) : e.warm.state ≠ .sent := by
  unfold LabelEntry.warm
  dsimp only
  split
  · exact nofun
  · next h => exact h

/-- A cancelled definition leaves every slot's published content (R109). -/
theorem cancel_contents (t : TemplateStore) : t.cancel.slots.map (·.content) = t.slots.map (·.content) := by
  refine Vector.ext fun i hi => ?_
  have hslot (u : TemplateStore) : u.slot i = u.slots[i] := by
    rw [TemplateStore.slot, tget, Vector.getElem?_eq_getElem hi, Option.getD_some]
  rw [Vector.getElem_map, Vector.getElem_map, ← hslot, ← hslot]
  exact (slot_cancel_kept t i).1

theorem warm_fifo (z : Forwarder) (p : BranchPort) : z.warm.fifo p = [] := by cases p <;> rfl

theorem warm_queue (u : Uplink) (c : UplinkClass) : (u.warm.queue c).frames = [] := by cases c <;> rfl

theorem TemplateStore.warm_definition (t : TemplateStore) : t.warm.definition = none := congrArg (·.definition) (cancel_frame t)

/-! ### A warm start (R63, R78, R176, R189) -/

/-- A warm start before the cutover record is resumed and the tills are served. -/
def warmJudged (kind : StartKind) (cause : StartCause) (s : State) : State :=
  judgeAllLags (reportRestart s.xce.session (judgeHighWater (warmBlocks kind cause s)))

theorem reportRestart_frame (x : ExchangeSession) (s : State) :
    reportRestart x s = { s with msp := { s.msp with reports := (reportRestart x s).msp.reports } } := by
  unfold reportRestart
  split <;> rfl

theorem reportRestart_head {x : ExchangeSession} {r : Report} (h : s.msp.reports.head? = some r) :
    (reportRestart x s).msp.reports.head? = some r := by
  unfold reportRestart
  split
  · exact h
  · exact queueReport_head h

/-- The judgements of a warm start write item records, the high-water flag and reports alone, keep every current, and queue behind STARTED. -/
theorem warmJudged_spec (kind : StartKind) (cause : StartCause) (s : State) :
    let t := warmJudged kind cause s
    let b := warmBlocks kind cause s
    (∃ items high reports, t = { b with
      itb := { b.itb with items := items }, jnl := { b.jnl with highArmed := high }, msp := { b.msp with reports := reports } }) ∧
    (∀ code, (t.item code).map (·.current) = (s.item code).map (·.current)) ∧
    t.msp.reports.head? = some ⟨s.now, .started kind cause .passed s.now s.msp.clock.isSet⟩ := by
  intro t b
  obtain ⟨high, q, hwater⟩ : ∃ high q, judgeHighWater b =
      { b with jnl := { b.jnl with highArmed := high }, msp := { b.msp with reports := q } } := ⟨_, _, judgeHighWater_eq⟩
  obtain ⟨q', hrestart⟩ : ∃ q', reportRestart s.xce.session (judgeHighWater b) =
      { judgeHighWater b with msp := { (judgeHighWater b).msp with reports := q' } } := ⟨_, reportRestart_frame ..⟩
  obtain ⟨items, q'', hlags⟩ : ∃ items q'', t = { reportRestart s.xce.session (judgeHighWater b) with
      itb := { (reportRestart s.xce.session (judgeHighWater b)).itb with items := items }
      msp := { (reportRestart s.xce.session (judgeHighWater b)).msp with reports := q'' } } := ⟨_, _, judgeAllLags_frame _⟩
  refine ⟨⟨items, high, q'', hlags.trans ?_⟩, fun code => ?_, judgeAllLags_head (reportRestart_head (serves_judgeHighWater.head _ rfl))⟩
  · rw [hrestart, hwater]
  · have hitem : (reportRestart s.xce.session (judgeHighWater b)).item code = s.item code := by
      rw [hrestart, hwater]
      rfl
    refine (congrArg (Option.map (·.current)) (judgeAllLags_item _ code)).trans ?_
    rw [hitem, Option.map_map]
    rfl

theorem resumeCutover_quiet (h : s.xce.cutover.state = .none ∨ s.xce.cutover.state = .apply) : resumeCutover s = s := by
  unfold resumeCutover
  dsimp only
  rcases h with h | h
  · rw [h]
  · rw [h]

/-- A warm start with no cutover to resume: the judged part, or the same with the tills served. -/
theorem warmStart_serves (kind : StartKind) (cause : StartCause) (mem : MemFaults)
    (h : s.xce.cutover.state = .none ∨ s.xce.cutover.state = .apply) :
    ∃ t b, ServesTills (warmJudged kind cause s) t ∧ warmStart kind cause mem s = { t with tsu := { t.tsu with serving := b } } := by
  obtain ⟨items, high, reports, hjudged⟩ := (warmJudged_spec kind cause s).1
  have hresume : resumeCutover (warmJudged kind cause s) = warmJudged kind cause s := resumeCutover_quiet (by rw [hjudged]; exact h)
  have hhold : (warmJudged kind cause s).tsu.hold = false := by rw [hjudged]; rfl
  unfold warmStart
  dsimp only
  split
  · exact ⟨_, (warmJudged kind cause s).tsu.serving, .refl _, hresume⟩
  · obtain ⟨t, ht, hserve⟩ := serveTills_free mem hhold
    exact ⟨t, true, ht, (congrArg (serveTills mem) hresume).trans hserve⟩

end Sys2Proof.Machine

namespace Sys2Proof.Proofs
open Sys2Proof.Machine

/-- Settles O3, block by block: each value is the one that the block's cold record names, and each table holds one value throughout. -/
theorem resetHoldsTheColdStartValues : Obligations.ResetHoldsTheColdStartValues := by
  -- Items and tills.
  refine ⟨rfl, rfl, rfl, rfl, rfl, fun e he => ?_, fun x hx => ?_, fun b hb => ?_, rfl, rfl, rfl, rfl, ?_⟩
  · rw [eq_of_mem_replicate he]; exact ⟨rfl, rfl, rfl, rfl⟩
  · rw [eq_of_mem_replicate hx]; exact ⟨rfl, rfl⟩
  · rw [eq_of_mem_replicate hb]; exact ⟨rfl, rfl⟩
  -- The journal and the labels.
  refine ⟨rfl, rfl, rfl, rfl, rfl, rfl, rfl, rfl, rfl, rfl, fun r hr => ?_, rfl, rfl, rfl, rfl, ?_⟩
  · rw [eq_of_mem_replicate hr]; exact ⟨rfl, rfl⟩
  -- The templates, the forwarder and the guests.
  refine ⟨coldSlot_zero, fun n hn _ => coldSlot_succ hn, rfl, rfl, rfl, rfl, rfl, rfl, coldCell, rfl, coldFifo, rfl, rfl, rfl, rfl, rfl, rfl, ?_⟩
  -- The uplink, the exchange and the Message Port.
  exact ⟨coldQueue, rfl, rfl, rfl, rfl, rfl, rfl, rfl, rfl, rfl, rfl, rfl, rfl, rfl, rfl, coldFault, rfl, rfl, rfl, rfl⟩

/-- What a warm start keeps, loses and reports first: O59's fourth clause for one kind of start. -/
theorem warmStart_keeps (kind : StartKind) (cause : StartCause) (mem : MemFaults) (s : State)
    (hcut : s.xce.cutover.state = .none ∨ s.xce.cutover.state = .apply) :
    let t := warmStart kind cause mem s
    t.power = .running ∧ t.itb.epoch = s.itb.epoch ∧ t.itb.rates = s.itb.rates ∧
      (∀ code, (t.item code).map (·.current) = (s.item code).map (·.current)) ∧ t.tsu.roster = s.tsu.roster ∧
      (∀ lane, laneOk lane = true → (t.session lane).state = .absent ∧ (t.basket lane).sequence = (s.basket lane).sequence) ∧
      t.jnl.mark = s.jnl.mark ∧ t.jnl.limit = none ∧ t.lrc.rails = s.lrc.rails ∧ t.lrc.frame = none ∧
      (∀ e ∈ t.lrc.directory, e.state ≠ .sent) ∧ t.tps.slots.map (·.content) = s.tps.slots.map (·.content) ∧ t.tps.definition = none ∧
      t.zfw.ranges = s.zfw.ranges ∧ t.zfw.policy = s.zfw.policy ∧ (∀ p, t.zfw.fifo p = []) ∧ t.gat = State.reset.gat ∧
      t.uls.day = s.uls.day ∧ t.uls.night = s.uls.night ∧ (∀ q, (t.uls.queue q).frames = []) ∧
      t.xce.session.state = .idle ∧ t.xce.staging = [] ∧ t.xce.counter = s.xce.counter ∧ t.xce.blockSize = s.xce.blockSize ∧
      t.msp.replies = [] ∧ t.msp.clock = s.msp.clock ∧ t.msp.checkWritten = true ∧
      t.msp.reports.head?.map (·.body) = some (.started kind cause .passed s.now s.msp.clock.isSet) := by
  obtain ⟨t, b, hserves, hwarm⟩ := warmStart_serves kind cause mem hcut
  obtain ⟨⟨items, high, reports, hjudged⟩, hitems, hhead⟩ := warmJudged_spec kind cause s
  rw [hwarm]
  have habsent : ∀ lane, (t.session lane).state = .absent := hserves.absent fun lane => by rw [hjudged]; exact warm_absent kind cause lane
  have hsequence (lane : Nat) : (t.basket lane).sequence = (s.basket lane).sequence := by
    rw [hserves.sequence, hjudged]
    exact warm_sequence kind cause lane
  have hlrc : t.lrc = s.lrc.warm s.now := by rw [hserves.frame, hjudged]; rfl
  have htps : t.tps = s.tps.warm := by rw [hserves.frame, hjudged]; rfl
  have hzfw : t.zfw = s.zfw.warm := by rw [hserves.frame, hjudged]; rfl
  have huls : t.uls = s.uls.warm := by rw [hserves.frame, hjudged]; rfl
  have hxce : t.xce = s.xce.warm := by rw [hserves.frame, hjudged]; rfl
  have hitb : t.itb = (warmJudged kind cause s).itb := by rw [hserves.frame]
  obtain ⟨hreplies, hclock, hcheck⟩ := hserves.port
  refine ⟨?_, ?_, ?_, fun code => ?_, ?_, fun lane _ => ⟨habsent lane, hsequence lane⟩, ?_, ?_, ?_, ?_, fun e he => ?_, ?_, ?_, ?_, ?_,
    fun p => ?_, ?_, ?_, ?_, fun q => ?_, ?_, ?_, ?_, ?_, ?_, ?_, ?_, ?_⟩
  · rw [hserves.frame, hjudged]; rfl
  · rw [hserves.frame, hjudged]; rfl
  · rw [hserves.frame, hjudged]; rfl
  · rw [← hitems, State.item, State.item, ← hitb]
  · rw [hserves.frame, hjudged]; rfl
  · exact hserves.mark.trans (by rw [hjudged]; rfl)
  · exact hserves.limit.trans (by rw [hjudged]; rfl)
  · exact (congrArg (·.rails) hlrc).trans (congrArg (·.rails) (s.lrc.warm_frame s.now))
  · exact (congrArg (·.frame) hlrc).trans (congrArg (·.frame) (s.lrc.warm_frame s.now))
  · have hdir : t.lrc.directory = s.lrc.directory.map (·.warm) :=
      (congrArg (·.directory) hlrc).trans (congrArg (·.directory) (s.lrc.warm_frame s.now))
    obtain ⟨x, -, rfl⟩ := List.mem_map.mp (hdir ▸ he)
    exact x.warm_notSent
  · exact (congrArg (·.slots.map (·.content)) htps).trans (cancel_contents s.tps)
  · exact (congrArg (·.definition) htps).trans s.tps.warm_definition
  · exact congrArg (·.ranges) hzfw
  · exact congrArg (·.policy) hzfw
  · exact (congrArg (·.fifo p) hzfw).trans (warm_fifo s.zfw p)
  · rw [hserves.frame, hjudged]; rfl
  · exact congrArg (·.day) huls
  · exact congrArg (·.night) huls
  · exact (congrArg (fun u => (u.queue q).frames) huls).trans (warm_queue s.uls q)
  · exact congrArg (·.session.state) hxce
  · exact congrArg (·.staging) hxce
  · exact congrArg (·.counter) hxce
  · exact congrArg (·.blockSize) hxce
  · exact hreplies.trans (by rw [hjudged]; rfl)
  · exact hclock.trans (by rw [hjudged]; rfl)
  · exact hcheck.trans (by rw [hjudged]; rfl)
  · exact congrArg (Option.map (·.body)) (hserves.head _ hhead)

/-- Settles O59: the check word's arithmetic, the starts by what the retained check gives, and the loss of power block by block. -/
theorem startsAndPowerLoss : Obligations.StartsAndPowerLoss := by
  refine fun mem s => ⟨fun hw => ?_, fun c cause result memory hcase => ?_, fun c cause part hw hcase => ?_, fun c hw hcase hcut => ?_, ?_⟩
  · exact ⟨_, if_pos hw, checkFor_spec _⟩
  · rcases hcase with ⟨habsent, ⟨hoff, rfl, rfl⟩ | ⟨hwarm, rfl, rfl⟩, rfl⟩ | ⟨hcold, rfl, rfl, rfl⟩
    · rw [powerOn_off memory mem hoff, checkedStart_absent mem habsent]
      rfl
    · rw [resetRequest_warm memory mem hwarm, checkedStart_absent mem habsent]
      rfl
    · rw [resetRequest_cold memory mem hcold]
      rfl
  · rcases hcase with ⟨hoff, rfl, rfl⟩ | ⟨hwarm, rfl, rfl⟩
    · rw [powerOn_off _ mem hoff, checkedStart_damaged _ _ part mem hw]
      rfl
    · rw [resetRequest_warm _ mem hwarm, checkedStart_damaged _ _ part mem hw]
      rfl
  · rcases hcase with ⟨hoff, rfl⟩ | ⟨hwarm, rfl⟩
    · refine ⟨_, (powerOn_off _ mem hoff).trans (congrArg _ (checkedStart_kept _ _ mem hw)), ?_⟩
      rw [if_pos hoff, if_pos hoff]
      exact warmStart_keeps .warm .power mem s hcut
    · have hon : ¬ s.power = .off := fun h => by rw [h] at hwarm; cases hwarm
      refine ⟨_, (resetRequest_warm _ mem hwarm).trans (congrArg _ (checkedStart_kept _ _ mem hw)), ?_⟩
      rw [if_neg hon, if_neg hon]
      exact warmStart_keeps .resetWarm .resetWarm mem s hcut
  · exact ⟨_, rfl, rfl, rfl, rfl, rfl, rfl, cancel_contents s.tps, rfl, rfl, rfl, rfl, rfl, rfl, rfl, rfl⟩

end Sys2Proof.Proofs
end

section
/-! The walks over the Item Table: which record a step visits, and what it makes of it (R5, R168, R170, R174). -/

namespace Sys2Proof.Machine

variable {s t : State}

/-! ### The record a walk visits (R1) -/

/-- The next stop of a walk is the first record past its position. -/
theorem nextAfter_eq {pos : Option Nat} {l : List ItemRecord} {r : ItemRecord} (hsorted : l.Pairwise fun a b => a.code < b.code) (hr : r ∈ l)
    (hpassed : ∀ x ∈ l, x.code < r.code → ∃ k, pos = some k ∧ x.code ≤ k) (hnext : ∀ k, pos = some k → k < r.code) :
    nextAfter ItemRecord.code pos l = some r := by
  obtain ⟨pre, post, rfl⟩ := List.append_of_mem hr
  refine List.find?_eq_some_iff_append.mpr ⟨?_, pre, post, rfl, fun x hx => ?_⟩
  · cases pos with
    | none => rfl
    | some k => exact decide_eq_true (hnext k rfl)
  · have hlt : x.code < r.code := (List.pairwise_append.mp hsorted).2.2 x hx r List.mem_cons_self
    obtain ⟨k, rfl, hle⟩ := hpassed x (List.mem_append_left _ hx) hlt
    simpa using hle

/-- A table that still holds a record past the position has a next stop. -/
theorem nextAfter_more {x : ItemRecord} {k : Nat} {l : List ItemRecord} (hx : x ∈ l) (hk : k < x.code) :
    (nextAfter ItemRecord.code (some k) l).isNone = false := by
  have hsome : (nextAfter ItemRecord.code (some k) l).isSome = true :=
    List.find?_isSome.mpr ⟨x, hx, decide_eq_true hk⟩
  rw [← Option.not_isSome, hsome]
  rfl

/-- One item record is written, and the others found as they were. -/
structure VisitsItem (code : Nat) (s t : State) : Prop where
  frame : t = { s with itb := { s.itb with items := t.itb.items } }
  others : ∀ c, c ≠ code → t.item c = s.item c

theorem VisitsItem.refl (code : Nat) (s : State) : VisitsItem code s s := ⟨rfl, fun _ _ => rfl⟩

theorem visits_put {r : ItemRecord} {code : Nat} (h : r.code = code) : VisitsItem code s (s.putItem r) :=
  ⟨rfl, fun _ hc => putItem_item_ne s r (by rw [h]; exact hc)⟩

theorem visits_drop (code : Nat) : VisitsItem code s (s.dropItem code) := ⟨rfl, fun _ hc => dropItem_item_ne s hc⟩

/-- After a visit the walk has a further record where the table held one. -/
theorem more_after_visit {code : Nat} (hord : s.itemsOrdered) (hmore : ∃ x ∈ s.itb.items, code < x.code)
    (hothers : ∀ c, c ≠ code → t.item c = s.item c) : (nextAfter ItemRecord.code (some code) t.itb.items).isNone = false := by
  obtain ⟨x, hx, hlt⟩ := hmore
  have hitem : t.item x.code = some x := (hothers x.code (by omega)).trans (item_of_mem hord.1 hx)
  exact nextAfter_more (mem_of_item hitem) hlt

/-! ### Pending records dropped (R5, R168, R170) -/

/-- What is left of a record whose pending record is dropped (R5). -/
def ItemRecord.withoutPending (r : ItemRecord) : Option ItemRecord := if r.current = none then none else some { r with pending := none }

theorem dropPending_spec (r : ItemRecord) (s : State) :
    VisitsItem r.code s (dropPending r s) ∧ (dropPending r s).item r.code = r.withoutPending := by
  unfold dropPending ItemRecord.withoutPending
  by_cases h : r.current = none
  · rw [if_pos (by rw [h]; rfl), if_pos h]
    exact ⟨visits_drop r.code, dropItem_item s r.code⟩
  · rw [if_neg (by simpa using h), if_neg h]
    exact ⟨visits_put rfl, putItem_item s { r with pending := none }⟩

theorem visitPending_spec {mem : MemFaults} {r : ItemRecord} (sel : ItemRecord → Bool) (hclean : r.code ∉ mem.items)
    (hr : s.item r.code = some r) :
    VisitsItem r.code s (visitPending mem sel r.code s) ∧
      (visitPending mem sel r.code s).item r.code = if sel r then r.withoutPending else some r := by
  have hvisit : visitPending mem sel r.code s = if sel r then dropPending r s else s := by
    simp only [visitPending, checkItem_clean mem s hclean, hr]
  rw [hvisit]
  split
  · exact dropPending_spec r s
  · exact ⟨.refl r.code s, hr⟩

theorem otherBatch_iff {batch : Nat} {r : ItemRecord} {p : Pending} (hp : r.pending = some p) :
    r.otherBatch (some batch) = true ↔ p.batch ≠ batch := by simp [ItemRecord.otherBatch, hp]

theorem ofBatch_iff {batch : Nat} {r : ItemRecord} {p : Pending} (hp : r.pending = some p) :
    r.ofBatch (some batch) = true ↔ p.batch = batch := by simp [ItemRecord.ofBatch, hp]

/-! ### A change installed (R168) -/

theorem acceptedChange_ok {c : RawChange} {d : RawDetail} {p : PriceRecord} (hd : c.detail = some d) (hp : checkPrice d.price = .ok p)
    (hlen : d.desc.length ≤ 24) (hband : d.band ≤ 7) : acceptedChange c = some (p, d) := by
  simp [acceptedChange, hd, hp, descBandOk, hlen, hband]

/-- A price change on a record that stands sets its pending record (R5, R168). -/
theorem installChange_known {mem : MemFaults} {c : RawChange} {d : RawDetail} {p : PriceRecord} {r : ItemRecord}
    (hcode : codeOk c.code = true) (hkind : c.kind = 0 ∨ c.kind = 1) (hacc : acceptedChange c = some (p, d)) (hr : s.item c.code = some r)
    (hclean : c.code ∉ mem.items) :
    installChange mem c s = (s.putItem { r with pending := some (stagedPending (.price p d.desc d.band) s) }, .installed) := by
  have hset : setPending mem c.code (.price p d.desc d.band) s =
      s.putItem { r with pending := some (stagedPending (.price p d.desc d.band) s) } := by
    simp only [setPending, checkItem_clean mem s hclean, hr]
  unfold installChange
  rw [if_neg (by simp [hcode])]
  rcases hkind with h | h
  · simp only [h, hacc, hr, hset]
  · simp only [h, hacc, hr, hset]

/-! ### Promotion (R174) -/

theorem changeCurrent_clean {mem : MemFaults} (p : PriceRecord) (also : ItemRecord → ItemRecord) {r : ItemRecord} (s : State)
    (hclean : r.code ∉ mem.items) :
    changeCurrent mem p also r s = tellVersion r (s.putItem (also (r.changed mem s.now p))) := by
  unfold changeCurrent
  rw [checkItem_clean mem s hclean, ite_self]

/-- The APPLY walk's visit of a record with nothing due: its position moves. -/
theorem applyRecord_skips {mem : MemFaults} {r : ItemRecord} (hclean : r.code ∉ mem.items) (hr : s.item r.code = some r)
    (hnone : ∀ p, r.pending = some p → s.itb.epoch + 1 < p.epoch) :
    applyRecord mem r.code s = s.onCutover fun c => { c with walkPos := some r.code } := by
  unfold applyRecord
  simp only [checkItem_clean mem s hclean, hr]
  cases hp : r.pending with
  | none => rfl
  | some p =>
    dsimp only
    rw [if_neg (Nat.not_le.mpr (hnone p hp))]

/-- The APPLY walk's visit of a record whose pending record is due: promoted and counted. -/
theorem applyRecord_promotes {mem : MemFaults} {r : ItemRecord} {p : Pending} (hclean : r.code ∉ mem.items) (hr : s.item r.code = some r)
    (hp : r.pending = some p) (hdue : p.epoch ≤ s.itb.epoch + 1) :
    applyRecord mem r.code s = ((promote mem r p s).onCutover (·.count p.kind)).onCutover fun c => { c with walkPos := some r.code } := by
  unfold applyRecord
  simp only [checkItem_clean mem s hclean, hr, hp, if_pos hdue]

end Sys2Proof.Machine

namespace Sys2Proof.Proofs
open Sys2Proof.Machine

/-- A step of pass 1: O53's first clause. -/
theorem pass1_visits (mem : MemFaults) (r : ItemRecord) (s : State) (hrun : s.power = .running) (hord : s.itemsOrdered) (hr : r ∈ s.itb.items)
    (hmore : ∃ x ∈ s.itb.items, r.code < x.code) (hclean : r.code ∉ mem.items) {pos : Option Nat} {batch : Nat} {p : Pending}
    (hbatch : s.xce.stagingBatch = some batch) (hp : r.pending = some p) (hnext : nextAfter ItemRecord.code pos s.itb.items = some r)
    (hwalk : s.xce.walk = some (.pass1 pos)) :
    ∃ t, exec (.stagingPass1Step mem) s = .next t ∧
      t = { s with itb := { s.itb with items := t.itb.items }, xce := { s.xce with walk := some (.pass1 (some r.code)) } } ∧
      (∀ c, c ≠ r.code → t.item c = s.item c) ∧
      t.item r.code = (if p.batch = batch then some r else if r.current = none then none else some { r with pending := none }) := by
  obtain ⟨⟨hframe, hothers⟩, hown⟩ := visitPending_spec (·.otherBatch s.xce.stagingBatch) hclean (item_of_mem hord.1 hr)
  have hstep : stagingPass1 mem s =
      (visitPending mem (·.otherBatch s.xce.stagingBatch) r.code s).setWalk (some (.pass1 (some r.code))) := by
    simp only [stagingPass1, hwalk, pass1Step, hnext, more_after_visit hord hmore hothers, Bool.false_eq_true, if_false]
  rw [hbatch] at hstep hown hothers hframe
  refine ⟨_, (next_running (f := stagingPass1 mem) rfl hrun).trans (congrArg _ hstep), ?_, hothers, hown.trans ?_⟩
  · exact congrArg (State.setWalk (some (.pass1 (some r.code)))) hframe
  · by_cases hb : p.batch = batch
    · rw [if_neg fun h => (otherBatch_iff hp).mp h hb, if_pos hb]
    · rw [if_pos ((otherBatch_iff hp).mpr hb), if_neg hb]
      rfl

/-- A step of the abort walk: O53's second clause. -/
theorem abortWalk_visits (mem : MemFaults) (r : ItemRecord) (s : State) (hrun : s.power = .running) (hord : s.itemsOrdered)
    (hr : r ∈ s.itb.items) (hmore : ∃ x ∈ s.itb.items, r.code < x.code) (hclean : r.code ∉ mem.items) {pos : Option Nat} {batch : Nat}
    {p : Pending} (hbatch : s.xce.stagingBatch = some batch) (hp : r.pending = some p)
    (hnext : nextAfter ItemRecord.code pos s.itb.items = some r) (hwalk : s.xce.walk = some (.abort pos)) :
    ∃ t, exec (.abortWalkStep mem) s = .next t ∧
      t = { s with itb := { s.itb with items := t.itb.items }, xce := { s.xce with walk := some (.abort (some r.code)) } } ∧
      (∀ c, c ≠ r.code → t.item c = s.item c) ∧
      t.item r.code = (if p.batch ≠ batch then some r else if r.current = none then none else some { r with pending := none }) := by
  obtain ⟨⟨hframe, hothers⟩, hown⟩ := visitPending_spec (·.ofBatch s.xce.stagingBatch) hclean (item_of_mem hord.1 hr)
  have hstep : abortWalk mem s = (visitPending mem (·.ofBatch s.xce.stagingBatch) r.code s).setWalk (some (.abort (some r.code))) := by
    simp only [abortWalk, hwalk, abortStep, hnext, more_after_visit hord hmore hothers, Bool.false_eq_true, if_false]
  rw [hbatch] at hstep hown hothers hframe
  refine ⟨_, (next_running (f := abortWalk mem) rfl hrun).trans (congrArg _ hstep), ?_, hothers, hown.trans ?_⟩
  · exact congrArg (State.setWalk (some (.abort (some r.code)))) hframe
  · by_cases hb : p.batch = batch
    · rw [if_pos ((ofBatch_iff hp).mpr hb), if_neg (not_not.mpr hb)]
      rfl
    · rw [if_neg fun h => hb ((ofBatch_iff hp).mp h), if_pos hb]

/-- A step of pass 2 on a price change of a record that stands: O53's third clause. -/
theorem pass2_installs (mem : MemFaults) (r : ItemRecord) (s : State) (hrun : s.power = .running) (hitem : s.item r.code = some r)
    (hclean : r.code ∉ mem.items) {i : Nat} {c : RawChange} {h : BatchHeader} {batch : Nat} {d : RawDetail} {p : PriceRecord}
    (hwalk : s.xce.walk = some (.pass2 i)) (hbatch : s.xce.stagingBatch = some batch) (hheader : s.xce.session.header = some h)
    (hc : s.xce.staging[i]? = some c) (hlen : i + 1 < s.xce.staging.length) (hcode : c.code = r.code) (hok : codeOk r.code = true)
    (hkind : c.kind = 0 ∨ c.kind = 1) (hacc : acceptedChange c = some (p, d)) :
    ∃ t, exec (.stagingPass2Step mem) s = .next t ∧
      t = { s with
        itb := { s.itb with items := t.itb.items }
        xce := { s.xce with
          walk := some (.pass2 (i + 1)), session := { s.xce.session with installed := s.xce.session.installed + 1 } } } ∧
      (∀ k, k ≠ r.code → t.item k = s.item k) ∧
      t.item r.code = some { r with pending := some ⟨h.epoch, batch, .price p d.desc d.band⟩ } := by
  have hpending : stagedPending (.price p d.desc d.band) s = ⟨h.epoch, batch, .price p d.desc d.band⟩ := by
    simp only [stagedPending, hheader, hbatch, Option.map_some, Option.getD_some]
  have hinstall := installChange_known (s := s) (mem := mem) (by rw [hcode]; exact hok) hkind hacc (by rw [hcode]; exact hitem)
    (by rw [hcode]; exact hclean)
  rw [hpending] at hinstall
  have hmore : ¬ ((s.putItem { r with pending := some ⟨h.epoch, batch, .price p d.desc d.band⟩ }).onSession
      (·.count .installed)).xce.staging.length ≤ i + 1 := Nat.not_le.mpr hlen
  have hstep : stagingPass2 mem s = ((s.putItem { r with pending := some ⟨h.epoch, batch, .price p d.desc d.band⟩ }).onSession
      (·.count .installed)).setWalk (some (.pass2 (i + 1))) := by
    simp only [stagingPass2, hwalk, pass2Step, hc, hinstall, if_neg hmore]
  exact ⟨_, (next_running (f := stagingPass2 mem) rfl hrun).trans (congrArg _ hstep), rfl,
    fun k hk => putItem_item_ne s { r with pending := some ⟨h.epoch, batch, .price p d.desc d.band⟩ } hk,
    putItem_item s { r with pending := some ⟨h.epoch, batch, .price p d.desc d.band⟩ }⟩

/-- A step of the APPLY walk: O53's fourth clause. -/
theorem applyWalk_visits (mem : MemFaults) (r : ItemRecord) (s : State) (hrun : s.power = .running) (hord : s.itemsOrdered)
    (hr : r ∈ s.itb.items) (hmore : ∃ x ∈ s.itb.items, r.code < x.code) (hclean : r.code ∉ mem.items) (hst : s.xce.cutover.state = .apply)
    (hwalk : s.xce.walk = none) (hnext : nextAfter ItemRecord.code s.xce.cutover.walkPos s.itb.items = some r) :
    ∃ t, exec (.applyWalkStep mem) s = .next t ∧
      t = { s with
        itb := { s.itb with items := t.itb.items }, lrc := t.lrc
        xce := { s.xce with cutover := { s.xce.cutover with
          walkPos := some r.code, promoted := t.xce.cutover.promoted, deleted := t.xce.cutover.deleted } } } ∧
      (∀ c, c ≠ r.code → t.item c = s.item c) ∧
      (r.pending = none → t.item r.code = some r ∧ t.lrc = s.lrc) ∧
      (∀ e b, r.pending = some ⟨e, b, .delete⟩ → e ≤ s.itb.epoch + 1 →
        t.item r.code = none ∧ t.xce.cutover.deleted = s.xce.cutover.deleted + 1) ∧
      (∀ e b n desc band, r.pending = some ⟨e, b, .price n desc band⟩ → e ≤ s.itb.epoch + 1 →
        t.xce.cutover.promoted = s.xce.cutover.promoted + 1 ∧ ∃ r', t.item r.code = some r' ∧ r'.current = some n ∧ r'.desc = desc ∧
          r'.band = band ∧ r'.pending = none ∧ r'.blocked = r.blocked ∧ r'.labels = r.labels ∧ r'.count = r'.pendingCount ∧
          r'.version = (if r.version < 65535 then r.version + 1 else 0)) ∧
      (∀ p, r.pending = some p → s.itb.epoch + 1 < p.epoch → t.item r.code = some r ∧ t.lrc = s.lrc) := by
  have hitem := item_of_mem hord.1 hr
  have hstep (hothers : ∀ c, c ≠ r.code → (applyRecord mem r.code s).item c = s.item c) :
      exec (.applyWalkStep mem) s = .next (applyRecord mem r.code s) := by
    refine (next_running (f := applyWalk mem) rfl hrun).trans (congrArg _ ?_)
    simp only [applyWalk, hst, hwalk, and_self, if_true, applyStep, hnext, more_after_visit hord hmore hothers, Bool.false_eq_true, if_false]
  by_cases hdue : ∃ p, r.pending = some p ∧ p.epoch ≤ s.itb.epoch + 1
  · obtain ⟨⟨e, b, kind⟩, hp, hle⟩ := hdue
    have hnotEarly (p : Pending) (hp' : r.pending = some p) : ¬ s.itb.epoch + 1 < p.epoch := by
      rw [hp, Option.some.injEq] at hp'
      subst hp'
      exact Nat.not_lt.mpr hle
    have happly := applyRecord_promotes hclean hitem hp hle
    cases kind with
    | delete =>
      have hothers : ∀ c, c ≠ r.code → (applyRecord mem r.code s).item c = s.item c := fun c hc => by
        rw [happly]
        exact dropItem_item_ne s hc
      refine ⟨_, hstep hothers, by rw [happly]; rfl, hothers, fun h => ?_, fun _ _ _ _ => ?_, fun _ _ _ _ _ h _ => ?_,
        fun p hp' hlt => absurd hlt (hnotEarly p hp')⟩
      · exact absurd (h.symm.trans hp).symm (Option.some_ne_none _)
      · rw [happly]
        exact ⟨dropItem_item s r.code, rfl⟩
      · exact nomatch (Option.some.inj (h.symm.trans hp))
    | price n desc band =>
      have hpromote : promote mem r ⟨e, b, .price n desc band⟩ s =
          tellVersion r (s.putItem { r.changed mem s.now n with desc := desc, band := band, pending := none }) :=
        changeCurrent_clean n (fun x => { x with desc := desc, band := band, pending := none }) s hclean
      rw [hpromote] at happly
      have hothers : ∀ c, c ≠ r.code → (applyRecord mem r.code s).item c = s.item c := fun c hc => by
        rw [happly]
        exact putItem_item_ne s { r.changed mem s.now n with desc := desc, band := band, pending := none } hc
      refine ⟨_, hstep hothers, by rw [happly]; rfl, hothers, fun h => ?_, fun _ _ h _ => ?_, fun e' b' n' desc' band' h _ => ?_,
        fun p hp' hlt => absurd hlt (hnotEarly p hp')⟩
      · exact absurd (h.symm.trans hp).symm (Option.some_ne_none _)
      · exact nomatch (Option.some.inj (h.symm.trans hp))
      · obtain ⟨rfl, rfl, rfl⟩ : n = n' ∧ desc = desc' ∧ band = band' := by
          have := hp.symm.trans h
          simp only [Option.some.injEq, Pending.mk.injEq, PendingKind.price.injEq] at this
          exact this.2.2
        rw [happly]
        exact ⟨rfl, _, putItem_item s { r.changed mem s.now n with desc := desc, band := band, pending := none },
          rfl, rfl, rfl, rfl, rfl, rfl, rfl, rfl⟩
  · have hskip := applyRecord_skips hclean hitem (mem := mem) fun p hp => Nat.lt_of_not_le fun hle => hdue ⟨p, hp, hle⟩
    have hothers : ∀ c, c ≠ r.code → (applyRecord mem r.code s).item c = s.item c := fun c _ => by rw [hskip]; rfl
    have hsame : (applyRecord mem r.code s).item r.code = some r ∧ (applyRecord mem r.code s).lrc = s.lrc := by
      rw [hskip]
      exact ⟨hitem, rfl⟩
    exact ⟨_, hstep hothers, by rw [hskip]; rfl, hothers, fun _ => hsame, fun e b hp hle => absurd ⟨_, hp, hle⟩ hdue,
      fun e b n desc band hp hle => absurd ⟨_, hp, hle⟩ hdue, fun _ _ _ => hsame⟩

/-- Settles O53, walk by walk. -/
theorem walksVisitOneRecord : Obligations.WalksVisitOneRecord := by
  intro mem r s hrun hord hr hmore hclean
  refine ⟨fun pos batch p hbatch hp hpassed hpos => ?_, fun i c h batch d p hwalk hbatch hheader hc hlen hcode hok hkind hd hprice hdesc hband =>
    ?_, fun hst hwalk hpassed hpos => ?_⟩
  · have hnext := nextAfter_eq hord.1 hr hpassed hpos
    exact ⟨pass1_visits mem r s hrun hord hr hmore hclean hbatch hp hnext, abortWalk_visits mem r s hrun hord hr hmore hclean hbatch hp hnext⟩
  · exact pass2_installs mem r s hrun (item_of_mem hord.1 hr) hclean hwalk hbatch hheader hc hlen hcode hok hkind
      (acceptedChange_ok hd hprice hdesc hband)
  · exact applyWalk_visits mem r s hrun hord hr hmore hclean hst hwalk (nextAfter_eq hord.1 hr hpassed hpos)

end Sys2Proof.Proofs
end

section
/-! Exchange sessions: how one opens, sends its datagrams, retries and fails (R158 to R161, R164, R165, R170). -/

namespace Sys2Proof.Machine

variable {s t : State}

/-! ### Datagrams to head office (R147, R159) -/

/-- A datagram writes the EXCH queue alone. -/
theorem sendDatagram_frame (d : Datagram) (s : State) :
    sendDatagram d s = { s with uls := { s.uls with exch := (sendDatagram d s).uls.exch } } := by
  unfold sendDatagram
  split
  · rfl
  · unfold enqueueClass
    split <;> rfl

theorem sendDatagram_exch {d : Datagram} {p : Ipv4} (hp : s.xce.session.peer = some p) (hroom : s.uls.exch.frames.length < 128) :
    ∃ len, (sendDatagram d s).uls.exch.frames = s.uls.exch.frames ++ [⟨.datagram Config.ownWanAddress p d, len⟩] := by
  refine ⟨(encDatagram d).length + Config.wanHeaderOctets, ?_⟩
  simp only [sendDatagram, hp, enqueueClass_room (c := .exch) (s := s) hroom]
  rfl

/-- With room in the EXCH queue a datagram joins it, from the part's own WAN address to the session's peer (R159). -/
theorem sendDatagram_payloads {d : Datagram} {p : Ipv4} (hp : s.xce.session.peer = some p) (hroom : s.uls.exch.frames.length < 128) :
    (sendDatagram d s).uls.exch.frames.map (·.payload) =
      s.uls.exch.frames.map (·.payload) ++ [.datagram Config.ownWanAddress p d] := by
  obtain ⟨len, h⟩ := sendDatagram_exch (d := d) hp hroom
  rw [h, List.map_append]
  rfl

/-- A datagram of this session in a state that takes its kind (R159). -/
theorem datagram_taken {takes : ExchangeState → Bool} {st : ExchangeState} (f : State → State) (h : s.xce.session.state = st)
    (hidle : st ≠ .idle) (htakes : takes st = true) : datagram s.xce.session.number takes f s = f s := by
  subst h
  exact if_pos ⟨hidle, rfl, htakes⟩

/-! ### Failure (R170) -/

theorem logFailure_frame (r : FailReason) (s : State) : logFailure r s = { s with msp := (logFailure r s).msp } := by
  unfold logFailure
  split <;> rfl

theorem logFailure_quiet {r : FailReason} (h : r.faultCode = none) : logFailure r s = s := by
  unfold logFailure
  rw [h]

/-- The states a failure leaves for IDLE at once (R158, R170). -/
def ExchangeState.leaves (st : ExchangeState) : Prop := st = .opening ∨ st = .upload ∨ st = .download ∨ st = .verify

/-- A session that fails before STAGING goes to IDLE: its limit cleared in UPLOAD, DAY in force again from UPLOAD and DOWNLOAD (R158, R170). -/
theorem failSession_leaves {st : ExchangeState} (r : FailReason) (h : s.xce.session.state = st) (hst : st.leaves) :
    failSession r s = { s with
      xce := { s.xce with session := .idle, staging := [] }
      jnl := { s.jnl with limit := if st = .upload then none else s.jnl.limit }
      uls := { s.uls with inForce := if st = .upload ∨ st = .download then .day else s.uls.inForce }
      msp := (logFailure r s).msp.report
        (.exchangeFailed s.xce.session.number s.xce.session.startTag r st s.jnl.unuploaded s.jnl.mark) } := by
  have hlog := logFailure_frame r s
  unfold failSession
  generalize logFailure r s = u at hlog ⊢
  rw [hlog]
  rcases hst with rfl | rfl | rfl | rfl
  all_goals
    simp only [h]
    rfl

/-- A session that fails in STAGING turns to ABORTING (R170). -/
theorem failSession_staging (r : FailReason) (h : s.xce.session.state = .staging) : failSession r s = beginAbort r (logFailure r s) := by
  unfold failSession
  simp only [h]

/-- What a failure in fault 401 leaves of the Message Port: the fault and its report, then EXCHANGE-FAILED. -/
theorem failed_fault401 {r : FailReason} (h : r.faultCode = some 401) (body : ReportBody) :
    let m := (logFailure r s).msp.report body
    m.exchange = s.msp.exchange.log 401 s.now (.session s.xce.session.number r) ∧
      m.reports = queueReport s.now body
        (queueReport s.now (.fault .exchange 401 m.exchange.seq s.now (.session s.xce.session.number r)) s.msp.reports) := by
  have hlog : logFailure r s = s.logFault .exchange 401 (.session s.xce.session.number r) := by
    unfold logFailure
    rw [h]
  rw [hlog]
  exact ⟨rfl, rfl⟩

/-! ### A session opens (R161) -/

/-- A HELLO counts its attempt and starts its 30 s. -/
theorem sendHello_frame (s : State) : sendHello s = { s with
    xce := { s.xce with session := { s.xce.session with attempts := s.xce.session.attempts + 1, helloDue := some (s.elapsed + 30) } }
    uls := { s.uls with exch := (sendHello s).uls.exch } } := by
  have h := sendDatagram_frame (.hello s.xce.session.number s.xce.session.branch identity s.itb.epoch s.jnl.mark.seq s.jnl.append.seq) s
  unfold sendHello
  dsimp only
  generalize sendDatagram _ s = u at *
  rw [h]
  rfl

theorem sendHello_exch {p : Ipv4} (hp : s.xce.session.peer = some p) (hroom : s.uls.exch.frames.length < 128) :
    ∃ len, (sendHello s).uls.exch.frames = s.uls.exch.frames ++ [⟨.datagram Config.ownWanAddress p
      (.hello s.xce.session.number s.xce.session.branch identity s.itb.epoch s.jnl.mark.seq s.jnl.append.seq), len⟩] :=
  sendDatagram_exch hp hroom

theorem exchangeStart_taken {tag b : Nat} {branch : Text} (h1 : 1 ≤ branch.length) (h16 : branch.length ≤ 16)
    (hidle : s.xce.session.state = .idle) (hsize : s.xce.blockSize = some b)
    (hcut : s.xce.cutover.state = .none ∨ s.xce.cutover.state = .scheduled) :
    exchangeStart tag branch s = (openSession tag branch s, .accepted (next16 s.xce.counter)) := by
  have hway : s.xce.cutover.state.underWay = false := by rcases hcut with h | h <;> rw [h] <;> rfl
  unfold exchangeStart
  rw [if_neg (by omega), if_neg (not_not.mpr hidle), if_neg (by rw [hway]; exact Bool.false_ne_true), if_neg (by rw [hsize]; exact nofun)]

theorem openSession_peer (tag : Nat) (branch : Text) {p : Ipv4} (hp : s.zfw.exchangePeer = some p) :
    openSession tag branch s = sendHello { s with xce := { s.xce with
      counter := next16 s.xce.counter, session := .opened (next16 s.xce.counter) branch tag (some p) } } := by
  simp only [openSession, hp, Option.isNone_some, Bool.false_eq_true, if_false]

theorem openSession_noPeer (tag : Nat) (branch : Text) (hp : s.zfw.exchangePeer = none) :
    openSession tag branch s = { s with
      xce := { s.xce with counter := next16 s.xce.counter, session := .idle, staging := [] }
      msp := s.msp.report (.exchangeFailed (next16 s.xce.counter) tag .noPeer .opening s.jnl.unuploaded s.jnl.mark) } := by
  simp only [openSession, hp, Option.isNone_none, if_true]
  exact failSession_leaves .noPeer rfl (.inl rfl)

/-! ### A session aborted (R159, R170) -/

/-- EXCHANGE-ABORT, and an ABORT of this session from head office: what each names as the reason. -/
def Aborts (c : Instr) (r : FailReason) (s : State) : Prop :=
  (∃ tag, c = .exchangeAbort tag true ∧ r = .hostAbort ∧ s.canTake = true) ∨
    (∃ reason, c = .peerAbort s.xce.session.number reason ∧ r = .peerAbort ∧ s.power = .running)

theorem aborts_quiet {c : Instr} {r : FailReason} (h : Aborts c r s) : r.faultCode = none := by
  rcases h with ⟨tag, -, rfl, -⟩ | ⟨reason, -, rfl, -⟩ <;> rfl

/-- An abort fails the session, and writes of the Message Port besides no more than the replies. -/
theorem aborts_fails {c : Instr} {r : FailReason} (h : Aborts c r s) (hst : s.xce.session.state ≠ .idle) :
    ∃ q, exec c s = .next { failSession r s with msp := { (failSession r s).msp with replies := q } } := by
  rcases h with ⟨tag, rfl, rfl, htake⟩ | ⟨reason, rfl, rfl, hrun⟩
  · have hrun : withoutBody true exchangeAbort s = (failSession .hostAbort s, .okay) := if_neg hst
    exact ⟨_, next_taken (f := withoutBody true exchangeAbort) rfl htake hrun⟩
  · refine ⟨(failSession .peerAbort s).msp.replies, (next_running (f := takeAbort s.xce.session.number) rfl hrun).trans (congrArg _ ?_)⟩
    exact datagram_taken (takes := fun _ => true) (failSession .peerAbort) rfl hst rfl

end Sys2Proof.Machine

namespace Sys2Proof.Proofs
open Sys2Proof.Machine

/-- EXCHANGE-START that opens a session or finds no peer: O50's second clause. -/
theorem exchangeStart_opens (tag : Nat) (s : State) (htake : s.canTake = true) (branch : Text) (b : Nat) (h1 : 1 ≤ branch.length)
    (h16 : branch.length ≤ 16) (hidle : s.xce.session.state = .idle) (hsize : s.xce.blockSize = some b)
    (hcut : s.xce.cutover.state = .none ∨ s.xce.cutover.state = .scheduled) :
    let n := if s.xce.counter < 65535 then s.xce.counter + 1 else 1
    ∃ t, exec (.exchangeStart tag (some branch)) s = .next t ∧
      t = { s with
        xce := { s.xce with session := t.xce.session, staging := t.xce.staging, counter := n }
        uls := { s.uls with exch := t.uls.exch }, msp := t.msp } ∧
      t.msp.replies = s.msp.replies ++ [⟨tag, .accepted n, .request⟩] ∧
      (∀ p, s.zfw.exchangePeer = some p → t.xce.session.state = .opening ∧ t.xce.session.number = n ∧ t.xce.session.branch = branch ∧
        t.xce.session.startTag = tag ∧ t.xce.session.attempts = 1 ∧ t.xce.session.peer = some p ∧
        t.xce.session.helloDue = some (s.elapsed + 30) ∧ t.msp.reports = s.msp.reports ∧
        (s.uls.exch.frames.length < 128 → t.uls.exch.frames.length = s.uls.exch.frames.length + 1 ∧
          t.uls.exch.frames.getLast?.map (·.payload) =
            some (.datagram Config.ownWanAddress p (.hello n branch identity s.itb.epoch s.jnl.mark.seq s.jnl.append.seq)))) ∧
      (s.zfw.exchangePeer = none → t.xce.session.state = .idle ∧ t.uls = s.uls ∧ t.msp.reports =
        queueReport s.now (.exchangeFailed n tag .noPeer .opening s.jnl.unuploaded s.jnl.mark) s.msp.reports) := by
  intro n
  have hstart := exchangeStart_taken (tag := tag) h1 h16 hidle hsize hcut
  cases hpeer : s.zfw.exchangePeer with
  | none =>
    rw [openSession_noPeer tag branch hpeer] at hstart
    exact ⟨_, next_taken (f := withBody (some branch) (exchangeStart tag)) rfl htake hstart, rfl, rfl,
      fun p hp => absurd hp.symm (Option.some_ne_none p), fun _ => ⟨rfl, rfl, rfl⟩⟩
  | some p =>
    rw [openSession_peer tag branch hpeer] at hstart
    have hframe := sendHello_frame { s with xce := { s.xce with
      counter := next16 s.xce.counter, session := .opened (next16 s.xce.counter) branch tag (some p) } }
    have hexch := sendHello_exch (s := { s with xce := { s.xce with
      counter := next16 s.xce.counter, session := .opened (next16 s.xce.counter) branch tag (some p) } }) (p := p) rfl
    generalize sendHello _ = u at hstart hframe hexch
    refine ⟨_, next_taken (f := withBody (some branch) (exchangeStart tag)) rfl htake hstart, ?_, ?_, fun p' hp' => ?_,
      fun h => absurd h (Option.some_ne_none p)⟩
    · rw [hframe]; rfl
    · rw [hframe]; rfl
    · obtain rfl : p = p' := Option.some.inj hp'
      refine ⟨?_, ?_, ?_, ?_, ?_, ?_, ?_, ?_, fun hroom => ?_⟩
      any_goals (rw [hframe]; rfl)
      obtain ⟨len, hf⟩ := hexch hroom
      have hfinal : (State.addReply tag .request (.accepted (next16 s.xce.counter)) u).uls.exch.frames = _ := hf
      rw [hfinal, List.length_append, List.getLast?_concat]
      exact ⟨rfl, rfl⟩

/-- Settles O50: the requests and datagrams that open, abort or miss a session, by the state it is in. -/
theorem exchangeSessionsOpenAndAbort : Obligations.ExchangeSessionsOpenAndAbort := by
  refine ⟨fun tag s htake => ⟨fun n => ?_, exchangeStart_opens tag s htake⟩, fun c r s habort => ⟨fun st h hst => ?_, fun h => ?_⟩,
    fun s hrun => next_running (f := strayed) rfl hrun⟩
  · refine next_taken (f := withBody (some n) blockSize) rfl htake ?_
    unfold withBody blockSize blockSizeOf
    by_cases hn : n = 2 ∨ n = 4 ∨ n = 8 ∨ n = 16
    · simp only [if_pos hn, Option.isSome_some, if_true]
    · simp only [if_neg hn, Option.isSome_none, Bool.false_eq_true, if_false]
  · obtain ⟨q, hrun⟩ := aborts_fails habort (by rw [h]; rcases hst with rfl | rfl | rfl | rfl <;> exact nofun)
    have hfail := failSession_leaves r h hst
    rw [logFailure_quiet (aborts_quiet habort)] at hfail
    rw [hfail] at hrun
    exact ⟨_, hrun, rfl, rfl, rfl, fun hup => ⟨if_pos hup, if_pos (.inl hup)⟩, rfl⟩
  · obtain ⟨q, hrun⟩ := aborts_fails habort (by rw [h]; exact nofun)
    have hfail := failSession_staging r h
    rw [logFailure_quiet (aborts_quiet habort)] at hfail
    rw [hfail] at hrun
    exact ⟨_, hrun, rfl, rfl, rfl, rfl, rfl⟩

end Sys2Proof.Proofs
end

section
/-! Journal blocks read and sent, and the exchange's timers (R73, R161, R162, R164, R165, R170). -/

namespace Sys2Proof.Machine

variable {s t u : State}

/-! ### A block read reads the journal and writes its faults (R73, R75) -/

theorem logFault_port_congr {v : State} (d : FaultDomain) (code : Nat) (x : FaultDetail) (hm : u.msp = v.msp) :
    (u.logFault d code x).msp = (v.logFault d code x).msp := by
  have hport (w : State) : (w.logFault d code x).msp =
      MessagePort.report (.fault d code ((w.msp.faultRecord d).log code w.msp.clock.reading x).seq w.msp.clock.reading x)
        (w.msp.setFaultRecord d ((w.msp.faultRecord d).log code w.msp.clock.reading x)) := rfl
  rw [hport, hport, hm]

/-- Two parts with one journal and one Message Port. -/
def SameJournal (u v : State) : Prop := u.jnl = v.jnl ∧ u.msp = v.msp

theorem checkPage_congr {v : State} (mem : MemFaults) (r : JournalRecord) (i : Nat) (h : SameJournal u v) :
    SameJournal (checkPage mem r i u) (checkPage mem r i v) := by
  unfold checkPage SameJournal
  dsimp only
  split
  · exact ⟨by rw [logFault_jnl, logFault_jnl, h.1], logFault_port_congr _ _ _ h.2⟩
  · exact ⟨by rw [h.1], h.2⟩

theorem readRingPage_congr {v : State} (mem : MemFaults) (pos : Nat) (h : SameJournal u v) :
    SameJournal (readRingPage mem pos u).1 (readRingPage mem pos v).1 ∧ (readRingPage mem pos u).2 = (readRingPage mem pos v).2 := by
  unfold readRingPage
  rw [h.1]
  cases v.jnl.owner pos with
  | none => exact ⟨h, rfl⟩
  | some r => exact ⟨checkPage_congr mem r _ h, rfl⟩

theorem readRingPages_succ (mem : MemFaults) (n pos : Nat) (s : State) : readRingPages mem (n + 1) pos s =
    ((readRingPages mem n (forward pos 1) (readRingPage mem pos s).1).1,
      (readRingPage mem pos s).2 ++ (readRingPages mem n (forward pos 1) (readRingPage mem pos s).1).2) := rfl

theorem readRingPages_congr {v : State} (mem : MemFaults) (n pos : Nat) (h : SameJournal u v) :
    SameJournal (readRingPages mem n pos u).1 (readRingPages mem n pos v).1 ∧
      (readRingPages mem n pos u).2 = (readRingPages mem n pos v).2 := by
  induction n generalizing pos u v with
  | zero => exact ⟨h, rfl⟩
  | succ n ih =>
    obtain ⟨hpage, hview⟩ := readRingPage_congr mem pos h
    obtain ⟨hpages, hviews⟩ := ih (forward pos 1) hpage
    rw [readRingPages_succ, readRingPages_succ, hview, hviews]
    exact ⟨hpages, rfl⟩

/-- A block read within the span gives its pages (R73). -/
theorem blockRead_inside (mem : MemFaults) {start : Nat} (n : Nat) {lim : JournalPtr} (hlim : s.jnl.limit = some lim)
    (hin : ringDistance s.jnl.mark.pos start < pagesBetween s.jnl.mark lim) : ∃ k, blockRead mem start n s =
      ((readRingPages mem k start s).1, some (readRingPages mem k start s).2) := by
  refine ⟨min n (pagesBetween s.jnl.mark lim - ringDistance s.jnl.mark.pos start), ?_⟩
  unfold blockRead
  rw [hlim]
  exact if_pos hin

theorem blockRead_congr {v : State} (mem : MemFaults) (start n : Nat) (h : SameJournal u v) :
    SameJournal (blockRead mem start n u).1 (blockRead mem start n v).1 ∧ (blockRead mem start n u).2 = (blockRead mem start n v).2 := by
  unfold blockRead
  rw [h.1]
  cases v.jnl.limit with
  | none => exact ⟨h, rfl⟩
  | some lim =>
    dsimp only
    split
    · obtain ⟨hs, hv⟩ := readRingPages_congr mem _ start h
      exact ⟨hs, congrArg some hv⟩
    · exact ⟨h, rfl⟩

/-! ### A block sent (R162) -/

/-- Blocks that are read and sent write the journal's records, the Message Port and the EXCH queue. -/
def SendsBlocks (s t : State) : Prop :=
  t = { s with
    jnl := { s.jnl with records := t.jnl.records }, msp := t.msp, uls := { s.uls with exch := t.uls.exch } }

theorem SendsBlocks.refl (s : State) : SendsBlocks s s := rfl

theorem SendsBlocks.trans (h : SendsBlocks s t) (g : SendsBlocks t u) : SendsBlocks s u := by
  unfold SendsBlocks at h g ⊢
  rw [h] at g
  exact g

theorem sends_blockRead (mem : MemFaults) (start n : Nat) : SendsBlocks s (blockRead mem start n s).1 := by
  obtain ⟨rs, m, h, -⟩ := blockRead_frame mem start n s
  rw [h]
  rfl

theorem sends_datagram (d : Datagram) : SendsBlocks s (sendDatagram d s) := by
  have h := sendDatagram_frame d s
  generalize sendDatagram d s = t at *
  rw [h]
  rfl

/-- The JBLOCK of the pages a block read gives (R162). -/
def jblockOf (number k : Nat) (pages : List PageView) : Datagram :=
  .jblock number k ((pages.head?.map (·.seq)).getD 0) pages.length pages

theorem sendBlock_read {mem : MemFaults} {k : Nat} {ps : List PageView}
    (h : (blockRead mem (s.xce.session.blockStart k) s.xce.session.blockSize s).2 = some ps) :
    sendBlock mem k s = sendDatagram (jblockOf s.xce.session.number k ps)
      (blockRead mem (s.xce.session.blockStart k) s.xce.session.blockSize s).1 := by
  have hx : (blockRead mem (s.xce.session.blockStart k) s.xce.session.blockSize s).1.xce = s.xce := by rw [sends_blockRead]
  unfold sendBlock
  generalize blockRead mem _ _ s = b at *
  obtain ⟨v, o⟩ := b
  dsimp only at h hx ⊢
  rw [h]
  dsimp only
  rw [hx]
  rfl

theorem sendBlock_unread {mem : MemFaults} {k : Nat}
    (h : (blockRead mem (s.xce.session.blockStart k) s.xce.session.blockSize s).2 = none) :
    sendBlock mem k s = (blockRead mem (s.xce.session.blockStart k) s.xce.session.blockSize s).1 := by
  unfold sendBlock
  generalize blockRead mem _ _ s = b at *
  obtain ⟨v, o⟩ := b
  dsimp only at h ⊢
  rw [h]

/-- A block sent leaves of the journal and the Message Port what its read leaves, and writes the EXCH queue besides. -/
theorem sendBlock_spec (mem : MemFaults) (k : Nat) (s : State) : SendsBlocks s (sendBlock mem k s) ∧
    SameJournal (sendBlock mem k s) (blockRead mem (s.xce.session.blockStart k) s.xce.session.blockSize s).1 := by
  have hread := sends_blockRead (s := s) mem (s.xce.session.blockStart k) s.xce.session.blockSize
  cases h : (blockRead mem (s.xce.session.blockStart k) s.xce.session.blockSize s).2 with
  | none =>
    rw [sendBlock_unread h]
    exact ⟨hread, rfl, rfl⟩
  | some ps =>
    rw [sendBlock_read h]
    refine ⟨hread.trans (sends_datagram _), ?_, ?_⟩
    · rw [sendDatagram_frame]
    · rw [sendDatagram_frame]

theorem sendBlock_payloads {mem : MemFaults} {k : Nat} {ps : List PageView} {p : Ipv4} (hp : s.xce.session.peer = some p)
    (hroom : s.uls.exch.frames.length < 128)
    (h : (blockRead mem (s.xce.session.blockStart k) s.xce.session.blockSize s).2 = some ps) :
    (sendBlock mem k s).uls.exch.frames.map (·.payload) =
      s.uls.exch.frames.map (·.payload) ++ [.datagram Config.ownWanAddress p (jblockOf s.xce.session.number k ps)] := by
  have hread := sends_blockRead (s := s) mem (s.xce.session.blockStart k) s.xce.session.blockSize
  have huls : (blockRead mem (s.xce.session.blockStart k) s.xce.session.blockSize s).1.uls = s.uls := by
    obtain ⟨rs, m, hb, -⟩ := blockRead_frame mem (s.xce.session.blockStart k) s.xce.session.blockSize s
    rw [hb]
  rw [sendBlock_read h, sendDatagram_payloads (p := p) (by rw [hread]; exact hp) (by rw [huls]; exact hroom), huls]

/-! ### Blocks sent again (R164) -/

/-- The part after `i` blocks, from block `first` on, are read in block order. -/
def blocksRead (mem : MemFaults) (start : Nat → Nat) (size first : Nat) (s : State) (i : Nat) : State :=
  (List.range i).foldl (fun u j => (blockRead mem (start (first + j)) size u).1) s

theorem blocksRead_succ (mem : MemFaults) (start : Nat → Nat) (size first : Nat) (s : State) (i : Nat) :
    blocksRead mem start size first s (i + 1) = (blockRead mem (start (first + i)) size (blocksRead mem start size first s i)).1 := by
  simp only [blocksRead, List.range_succ, List.foldl_append, List.foldl_cons, List.foldl_nil]

/-- The part after `i` blocks, from block `first` on, are sent in block order. -/
def blocksSent (mem : MemFaults) (first : Nat) (s : State) (i : Nat) : State :=
  (List.range i).foldl (fun u j => sendBlock mem (first + j) u) s

theorem blocksSent_succ (mem : MemFaults) (first : Nat) (s : State) (i : Nat) :
    blocksSent mem first s (i + 1) = sendBlock mem (first + i) (blocksSent mem first s i) := by
  simp only [blocksSent, List.range_succ, List.foldl_append, List.foldl_cons, List.foldl_nil]

theorem resendBlocks_eq (mem : MemFaults) (s : State) : resendBlocks mem s =
    blocksSent mem (s.xce.session.highestAcked + 1) s (s.xce.session.highestSent - s.xce.session.highestAcked) := List.foldl_map

/-- Sending blocks writes the queue, and leaves of the journal and the Message Port what their reads leave. -/
theorem blocksSent_spec (mem : MemFaults) (first : Nat) (h : SameJournal u s) (i : Nat) :
    SendsBlocks u (blocksSent mem first u i) ∧ SameJournal (blocksSent mem first u i)
      (blocksRead mem u.xce.session.blockStart u.xce.session.blockSize first s i) := by
  induction i with
  | zero => exact ⟨.refl u, h⟩
  | succ i ih =>
    obtain ⟨hsends, hsame⟩ := ih
    obtain ⟨hsends', hsame'⟩ := sendBlock_spec mem (first + i) (blocksSent mem first u i)
    have hxce : (blocksSent mem first u i).xce = u.xce := by rw [hsends]
    rw [hxce] at hsame'
    have hread := (blockRead_congr mem (u.xce.session.blockStart (first + i)) u.xce.session.blockSize hsame).1
    rw [blocksSent_succ, blocksRead_succ]
    exact ⟨hsends.trans hsends', hsame'.1.trans hread.1, hsame'.2.trans hread.2⟩

/-- Every block within the span joins the EXCH queue, in block order, with the pages of its own read (R162, R164). -/
theorem blocksSent_payloads (mem : MemFaults) (first : Nat) (h : SameJournal u s) {p : Ipv4} {lim : JournalPtr}
    (hp : u.xce.session.peer = some p) (hlim : s.jnl.limit = some lim) (i : Nat)
    (hspan : ∀ j, j < i → ringDistance s.jnl.mark.pos (u.xce.session.blockStart (first + j)) < pagesBetween s.jnl.mark lim)
    (hroom : u.uls.exch.frames.length + i ≤ 128) :
    (blocksSent mem first u i).uls.exch.frames.map (·.payload) = u.uls.exch.frames.map (·.payload) ++ (List.range i).map fun j =>
      .datagram Config.ownWanAddress p (jblockOf u.xce.session.number (first + j)
        ((blockRead mem (u.xce.session.blockStart (first + j)) u.xce.session.blockSize
          (blocksRead mem u.xce.session.blockStart u.xce.session.blockSize first s j)).2.getD [])) := by
  induction i with
  | zero => simp [blocksSent]
  | succ i ih =>
    have hpayloads := ih (fun j hj => hspan j (by omega)) (by omega)
    obtain ⟨hsends, hsame⟩ := blocksSent_spec mem first h i
    have hxce : (blocksSent mem first u i).xce = u.xce := by rw [hsends]
    have hmark : (blocksSent mem first u i).jnl.mark = s.jnl.mark := by rw [hsends]; exact congrArg (·.mark) h.1
    have hlim' : (blocksSent mem first u i).jnl.limit = some lim := by rw [hsends]; exact (congrArg (·.limit) h.1).trans hlim
    have hlen : (blocksSent mem first u i).uls.exch.frames.length = u.uls.exch.frames.length + i := by
      have := congrArg List.length hpayloads
      simpa using this
    obtain ⟨k, hread⟩ := blockRead_inside (s := blocksSent mem first u i) mem (start := u.xce.session.blockStart (first + i))
      u.xce.session.blockSize hlim' (by rw [hmark]; exact hspan i (by omega))
    have hview := (blockRead_congr mem (u.xce.session.blockStart (first + i)) u.xce.session.blockSize hsame).2
    rw [hread] at hview
    have hsend := sendBlock_payloads (s := blocksSent mem first u i) (mem := mem) (k := first + i) (p := p)
      (by rw [hxce]; exact hp) (by omega) (by rw [hxce, hread])
    rw [blocksSent_succ, hsend, hpayloads, hxce, List.range_succ, List.map_append, List.map_cons, List.map_nil, ← hview,
      List.append_assoc]
    rfl

end Sys2Proof.Machine

namespace Sys2Proof.Proofs
open Sys2Proof.Machine

/-- The upload interval runs out with a resend left: the first half of O52's second clause. -/
theorem uploadInterval_resends (mem : MemFaults) (s : State) (hrun : s.power = .running) (hst : s.xce.session.state = .upload)
    (hdue : s.due s.xce.session.uploadDue = true) (hfew : s.xce.session.resends < 5) :
    ∃ t, exec (.uploadIntervalExpiry mem) s = .next t ∧
      t = { s with
        jnl := { s.jnl with records := t.jnl.records }, uls := { s.uls with exch := t.uls.exch }, msp := t.msp
        xce := { s.xce with session := { s.xce.session with
          resends := s.xce.session.resends + 1, uploadDue := some (s.elapsed + 10) } } } ∧
      (let x := s.xce.session
       let start : Nat → Nat := fun k => (x.origin + (k - 1) * x.blockSize) % 131072
       let reads : Nat → State := fun i =>
         (List.range i).foldl (fun u j => (blockRead mem (start (x.highestAcked + 1 + j)) x.blockSize u).1) s
       ∀ p lim, x.peer = some p → s.jnl.limit = some lim →
        (∀ k, x.highestAcked < k → k ≤ x.highestSent →
          (start k + 131072 - s.jnl.mark.pos) % 131072 < pagesBetween s.jnl.mark lim) →
        s.uls.exch.frames.length + (x.highestSent - x.highestAcked) ≤ 128 →
        t.uls.exch.frames.map (·.payload) = s.uls.exch.frames.map (·.payload) ++
          ((List.range (x.highestSent - x.highestAcked)).map fun i =>
            let k := x.highestAcked + 1 + i
            let pages := ((blockRead mem (start k) x.blockSize (reads i)).2).getD []
            .datagram Config.ownWanAddress p (.jblock x.number k ((pages.head?.map (·.seq)).getD 0) pages.length pages)) ∧
        t.jnl = (reads (x.highestSent - x.highestAcked)).jnl ∧ t.msp = (reads (x.highestSent - x.highestAcked)).msp) := by
  let u : State := s.onSession fun x => { x with resends := x.resends + 1, uploadDue := some (s.elapsed + 10) }
  have hstep : uploadExpires mem s =
      blocksSent mem (s.xce.session.highestAcked + 1) u (s.xce.session.highestSent - s.xce.session.highestAcked) := by
    unfold uploadExpires
    rw [if_pos ⟨hst, hdue⟩, if_pos hfew, resendUpload, resendBlocks_eq]
    rfl
  have hsame : SameJournal u s := ⟨rfl, rfl⟩
  obtain ⟨hsends, hjournal⟩ := blocksSent_spec mem (s.xce.session.highestAcked + 1) hsame
    (s.xce.session.highestSent - s.xce.session.highestAcked)
  refine ⟨_, (next_running (f := uploadExpires mem) rfl hrun).trans (congrArg _ hstep), hsends, ?_⟩
  intro x start reads p lim hp hlim hspan hroom
  refine ⟨?_, hjournal.1, hjournal.2⟩
  exact blocksSent_payloads mem (s.xce.session.highestAcked + 1) hsame (p := p) (lim := lim) hp hlim _
    (fun j hj => hspan (x.highestAcked + 1 + j) (by omega) (by dsimp only [x]; omega)) hroom

/-- Settles O52, timer by timer: each retries while it may, and fails the session when it may not. -/
theorem exchangeTimersRetryThenFail : Obligations.ExchangeTimersRetryThenFail := by
  intro s d hrun hle failed
  have hcomes {o : Option Nat} (h : o = some d) : s.due o = true := by simp [State.due, h, hle]
  refine ⟨fun hst hdue => ⟨fun hfew => ?_, fun hmany => ?_⟩, fun mem hst hdue => ⟨fun hfew => ?_, fun hmany => ?_⟩, fun hst hdue => ?_,
    fun hst hdue => ?_⟩
  · have hstep : helloExpires s = sendHello s := by
      unfold helloExpires
      rw [if_pos ⟨hst, hcomes hdue⟩, if_pos hfew]
    refine ⟨_, (next_running (f := helloExpires) rfl hrun).trans (congrArg _ hstep), sendHello_frame s, fun p hp hroom => ?_⟩
    obtain ⟨len, hexch⟩ := sendHello_exch hp hroom
    rw [hexch, List.map_append]
    rfl
  · have hstep : helloExpires s = failSession .noAnswer s := by
      unfold helloExpires
      rw [if_pos ⟨hst, hcomes hdue⟩, if_neg (by omega)]
    rw [failSession_leaves .noAnswer hst (.inl rfl)] at hstep
    exact ⟨_, (next_running (f := helloExpires) rfl hrun).trans (congrArg _ hstep), rfl, failed_fault401 rfl _, rfl, rfl, rfl⟩
  · exact uploadInterval_resends mem s hrun hst (hcomes hdue) hfew
  · have hstep : uploadExpires mem s = failSession .uploadTimeout s := by
      unfold uploadExpires
      rw [if_pos ⟨hst, hcomes hdue⟩, if_neg (by omega)]
    rw [failSession_leaves .uploadTimeout hst (.inr (.inl rfl))] at hstep
    exact ⟨_, (next_running (f := uploadExpires mem) rfl hrun).trans (congrArg _ hstep), rfl, rfl, rfl, failed_fault401 rfl _⟩
  · have hstep : backAgain s = sendBack (s.onSession fun x => { x with backDue := some (s.elapsed + 10) }) := if_pos ⟨hst, hcomes hdue⟩
    refine ⟨_, (next_running (f := backAgain) rfl hrun).trans (congrArg _ hstep), sendDatagram_frame _ _, fun p hp hroom => ?_⟩
    have hpayloads := sendDatagram_payloads (s := s.onSession fun x => { x with backDue := some (s.elapsed + 10) })
      (d := .back s.xce.session.number s.xce.session.highestPart) hp hroom
    rw [← List.getLast?_map]
    exact (congrArg List.getLast? hpayloads).trans List.getLast?_concat
  · have hstep : partExpires s = failSession .partTimeout s := if_pos ⟨hst, hcomes hdue⟩
    rw [failSession_leaves .partTimeout hst (.inr (.inr (.inl rfl)))] at hstep
    exact ⟨_, (next_running (f := partExpires) rfl hrun).trans (congrArg _ hstep), rfl, rfl, rfl, rfl, rfl, failed_fault401 rfl _⟩

end Sys2Proof.Proofs
end

section
/-! ACCEPT, JACK, BHEAD and BPART: what each makes of the session (R73, R74, R162, R163, R165 to R168). -/

namespace Sys2Proof.Machine

variable {s t u : State}

/-! ### Blocks sent while the window allows (R162) -/

/-- Sending blocks on counts them, and may start the interval with the first (R162, R164). -/
def SendsOn (s t : State) : Prop :=
  t = { s with
    jnl := { s.jnl with records := t.jnl.records }, msp := t.msp, uls := { s.uls with exch := t.uls.exch }
    xce := { s.xce with session := { s.xce.session with
      highestSent := t.xce.session.highestSent, blocksSent := t.xce.session.blocksSent, uploadDue := t.xce.session.uploadDue } } }

theorem SendsOn.refl (s : State) : SendsOn s s := rfl

theorem SendsOn.trans (h : SendsOn s t) (g : SendsOn t u) : SendsOn s u := by
  unfold SendsOn at h g ⊢
  rw [h] at g
  exact g

theorem SendsBlocks.sendsOn (h : SendsBlocks s t) : SendsOn s t := by
  unfold SendsBlocks at h
  unfold SendsOn
  rw [h]

/-- The session after one more block: counted, and the interval started with the first (R162, R164). -/
def ExchangeSession.sentNext (now : Nat) (x : ExchangeSession) : ExchangeSession :=
  { x with
    highestSent := x.highestSent + 1, blocksSent := x.blocksSent + 1
    uploadDue := if x.highestSent + 1 = 1 then some (now + 10) else x.uploadDue }

theorem sendNextBlock_spec (mem : MemFaults) (s : State) :
    SendsOn s (sendNextBlock mem s) ∧ (sendNextBlock mem s).elapsed = s.elapsed ∧
      (sendNextBlock mem s).xce.session = s.xce.session.sentNext s.elapsed := by
  have hsends := (sendBlock_spec mem (s.xce.session.highestSent + 1) s).1
  have helapsed : (sendBlock mem (s.xce.session.highestSent + 1) s).elapsed = s.elapsed := by
    obtain ⟨rs, m, hread, -, hclock, -⟩ := blockRead_frame mem (s.xce.session.blockStart (s.xce.session.highestSent + 1))
      s.xce.session.blockSize s
    have hmsp := (sendBlock_spec mem (s.xce.session.highestSent + 1) s).2.2
    rw [hread] at hmsp
    rw [State.elapsed, hmsp, State.elapsed]
    exact congrArg (·.elapsed) hclock
  unfold sendNextBlock
  dsimp only
  generalize sendBlock mem (s.xce.session.highestSent + 1) s = v at *
  have hsession : v.xce.session = s.xce.session := by rw [hsends]
  refine ⟨hsends.sendsOn.trans rfl, helapsed, ?_⟩
  unfold State.onSession ExchangeSession.sentNext
  dsimp only
  rw [hsession, helapsed]

/-- What the window lets be sent: up to 4 blocks past the highest acknowledged, within those laid (R162). -/
theorem sendBlocks_spec (mem : MemFaults) (fuel : Nat) (s : State) :
    let x := s.xce.session
    let y := (sendBlocks mem fuel s).xce.session
    SendsOn s (sendBlocks mem fuel s) ∧ (y.uploadDue = x.uploadDue ∨ y.uploadDue = some (s.elapsed + 10)) ∧
      x.highestSent ≤ y.highestSent ∧ y.blocksSent = x.blocksSent + (y.highestSent - x.highestSent) ∧
      (x.highestAcked ≤ x.highestSent → x.highestAcked + 4 ≤ x.highestSent + fuel →
        y.highestSent = max x.highestSent (min x.laid (x.highestAcked + 4))) := by
  induction fuel generalizing s with
  | zero => exact ⟨.refl s, .inl rfl, Nat.le_refl _, by simp [sendBlocks], fun _ h => by simp only [sendBlocks]; omega⟩
  | succ fuel ih =>
    by_cases hmay : s.xce.session.maySend = true
    · have hstep : sendBlocks mem (fuel + 1) s = sendBlocks mem fuel (sendNextBlock mem s) := if_pos hmay
      obtain ⟨hsends, helapsed, hsession⟩ := sendNextBlock_spec mem s
      obtain ⟨hsends', hdue, hle, hcount, hwindow⟩ := ih (sendNextBlock mem s)
      rw [hsession] at hdue hle hcount hwindow
      rw [helapsed] at hdue
      simp only [ExchangeSession.maySend, Bool.and_eq_true, decide_eq_true_eq] at hmay
      rw [hstep]
      generalize sendBlocks mem fuel (sendNextBlock mem s) = t at *
      dsimp only [ExchangeSession.sentNext] at hdue hle hcount hwindow ⊢
      refine ⟨hsends.trans hsends', ?_, by omega, by omega, fun hacked hfuel => ?_⟩
      · split at hdue
        · exact .inr (hdue.elim id id)
        · exact hdue
      · have := hwindow (by omega) (by omega)
        omega
    · have hstep : sendBlocks mem (fuel + 1) s = s := if_neg hmay
      rw [hstep]
      simp only [ExchangeSession.maySend, Bool.and_eq_true, decide_eq_true_eq] at hmay
      exact ⟨.refl s, .inl rfl, Nat.le_refl _, by omega, fun _ _ => by omega⟩

/-! ### The phases entered (R162, R165, R166, R168) -/

/-- The session in DOWNLOAD, its two timers started (R165). -/
def ExchangeSession.downloading (now : Nat) (x : ExchangeSession) : ExchangeSession :=
  { x with state := .download, uploadDue := none, partDue := some (now + 30), backDue := some (now + 10) }

theorem enterDownload_frame (s : State) : enterDownload s = { s with
    jnl := { s.jnl with limit := none }
    xce := { s.xce with session := s.xce.session.downloading s.elapsed }
    uls := { s.uls with exch := (enterDownload s).uls.exch } } :=
  sendDatagram_frame _ ((clearLimit s).onSession (·.downloading s.elapsed))

/-- The part at the entry to UPLOAD, before a block is sent: NIGHT in force, the limit open, the snapshot laid in blocks (R73, R151,
R162). -/
def uploading (b : Nat) (s : State) : State :=
  { s with
    uls := { s.uls with inForce := .night }, jnl := { s.jnl with limit := some s.jnl.append }
    xce := { s.xce with session := { s.xce.session with
      state := .upload, helloDue := none, blockSize := b, origin := s.jnl.mark.pos, limit := s.jnl.append.pos
      laid := ceilDiv s.jnl.unuploaded b } } }

theorem enterUpload_eq {b : Nat} (mem : MemFaults) (h : s.xce.blockSize = some b) :
    enterUpload mem s = if s.jnl.unuploaded = 0 then enterDownload (uploading b s) else sendBlocks mem 4 (uploading b s) := by
  have hcopy : copyBlockSize (profileNotice .night s) = (b, profileNotice .night s) := by
    have hsize : (profileNotice .night s).xce.blockSize = some b := h
    simp only [copyBlockSize, hsize]
  unfold enterUpload
  rw [hcopy]
  rfl

/-! ### A JACK (R74, R163) -/

/-- An acknowledgement notice writes the mark and the two flags (R74). -/
theorem acknowledge_frame (e : Nat) (s : State) : acknowledge e s = { s with jnl := { s.jnl with
    mark := (acknowledge e s).jnl.mark, highArmed := (acknowledge e s).jnl.highArmed, fullArmed := (acknowledge e s).jnl.fullArmed } } := by
  unfold acknowledge
  split
  · rfl
  · dsimp only
    split <;> rfl

theorem acknowledge_onSession (e : Nat) (f : ExchangeSession → ExchangeSession) (s : State) :
    acknowledge e (s.onSession f) = (acknowledge e s).onSession f := by
  have hjnl : (s.onSession f).jnl = s.jnl := rfl
  unfold acknowledge
  rw [hjnl]
  cases s.jnl.limit with
  | none => rfl
  | some lim =>
    dsimp only
    split <;> rfl

/-- The session after a JACK that advances (R163). -/
def ExchangeSession.acked (n now : Nat) (x : ExchangeSession) : ExchangeSession :=
  { x with highestAcked := n, resends := 0, uploadDue := some (now + 10) }

/-- The part after a JACK that advances has acknowledged its journal pages, before a further block is sent (R74, R163). -/
def ackedPart (n : Nat) (s : State) : State := (acknowledge (s.xce.session.blockEnd n) s).onSession (·.acked n s.elapsed)

theorem acknowledgeBlock_eq (n : Nat) (mem : MemFaults) (s : State) : acknowledgeBlock n mem s =
    if n = s.xce.session.laid then enterDownload (ackedPart n s) else sendBlocks mem 4 (ackedPart n s) := by
  have hack : acknowledge (s.xce.session.blockEnd n) (s.onSession (·.acked n s.elapsed)) = ackedPart n s := acknowledge_onSession _ _ s
  have hlaid : (ackedPart n s).xce.session.laid = s.xce.session.laid := by rw [ackedPart, acknowledge_frame]; rfl
  rw [← hlaid, ← hack]
  rfl

/-! ### The batch (R165 to R168) -/

theorem sendBack_frame (s : State) : sendBack s = { s with uls := { s.uls with exch := (sendBack s).uls.exch } } := sendDatagram_frame _ s

theorem sendBack_payloads {p : Ipv4} (hp : s.xce.session.peer = some p) (hroom : s.uls.exch.frames.length < 128) :
    (sendBack s).uls.exch.frames.map (·.payload) = s.uls.exch.frames.map (·.payload) ++
      [.datagram Config.ownWanAddress p (.back s.xce.session.number s.xce.session.highestPart)] := sendDatagram_payloads hp hroom

/-- A first header that is taken: kept, and answered with BACK (R165). -/
theorem judgeHeader_first {h : BatchHeader} (hnone : s.xce.session.header = none) (hepoch : h.epoch = s.itb.epoch + 1) (hpos : 0 < h.count)
    (hcount : h.count ≤ 32768) : judgeHeader h s = sendBack (s.onSession fun x => { x with header := some h }) := by
  unfold judgeHeader firstHeader
  rw [hnone]
  dsimp only
  rw [if_neg (not_not.mpr hepoch), if_neg (by omega), if_neg (by omega)]

/-- A first header that is refused fails the session (R165). -/
theorem judgeHeader_refused {h : BatchHeader} (hnone : s.xce.session.header = none) (hbad : h.epoch ≠ s.itb.epoch + 1 ∨ 32768 < h.count) :
    judgeHeader h s = failSession (if h.epoch ≠ s.itb.epoch + 1 then .epochMismatch else .stagingFull) s := by
  unfold judgeHeader firstHeader
  rw [hnone]
  dsimp only
  by_cases he : h.epoch ≠ s.itb.epoch + 1
  · rw [if_pos he, if_pos he]
  · rw [if_neg he, if_neg he, if_pos (hbad.resolve_left he)]

theorem judgeHeader_other {h k : BatchHeader} (hk : s.xce.session.header = some k) (hne : k ≠ h) : judgeHeader h s = strayed s := by
  unfold judgeHeader
  rw [hk]
  exact if_neg hne

/-- The session after a part in order, its timers started again (R165). -/
def ExchangeSession.tookPart (part now : Nat) (x : ExchangeSession) : ExchangeSession :=
  { x with highestPart := part, partDue := some (now + 30), backDue := some (now + 10) }

theorem joinPart_frame (part : Nat) (es : List RawChange) (s : State) : joinPart part es s = { s with
    xce := { s.xce with staging := s.xce.staging ++ es, session := s.xce.session.tookPart part s.elapsed }
    uls := { s.uls with exch := (joinPart part es s).uls.exch } } :=
  sendBack_frame (State.onSession (·.tookPart part s.elapsed) { s with xce := { s.xce with staging := s.xce.staging ++ es } })

theorem joinPart_payloads (part : Nat) (es : List RawChange) {p : Ipv4} (hp : s.xce.session.peer = some p)
    (hroom : s.uls.exch.frames.length < 128) :
    (joinPart part es s).uls.exch.frames.map (·.payload) =
      s.uls.exch.frames.map (·.payload) ++ [.datagram Config.ownWanAddress p (.back s.xce.session.number part)] :=
  sendBack_payloads (s := State.onSession (·.tookPart part s.elapsed) { s with xce := { s.xce with staging := s.xce.staging ++ es } }) hp hroom

theorem judgePart_inOrder {es : List RawChange} {h : BatchHeader} (last : Bool) (hh : s.xce.session.header = some h) (h1 : 1 ≤ es.length)
    (h16 : es.length ≤ 16) : judgePart (s.xce.session.highestPart + 1) es last s =
      judgeCount h.count last (joinPart (s.xce.session.highestPart + 1) es s) := by
  unfold judgePart
  rw [hh]
  exact if_pos ⟨rfl, h1, h16⟩

/-- The session in VERIFY (R166). -/
def verifying (s : State) : State :=
  profileNotice .day (s.onSession fun x => { x with state := .verify, partDue := none, backDue := none })

/-- A batch whose check passes goes on to STAGING where no cutover and no walk is in its way (R166 to R168). -/
theorem enterVerify_passes {h : BatchHeader} (hh : s.xce.session.header = some h)
    (hcheck : (batchSum s.xce.staging + h.check) % 65536 = 0) (hcut : s.xce.cutover.state = .none ∨ s.xce.cutover.state = .scheduled)
    (hwalk : s.xce.walk = none) : enterVerify s = enterStaging (verifying s) := by
  have hway : s.xce.cutover.state.underWay = false := by rcases hcut with h | h <;> rw [h] <;> rfl
  have hpass : batchPasses h s.xce.staging = true := by simp [batchPasses, hcheck]
  have hheader : (verifying s).xce.session.header = some h := hh
  have hverify : enterVerify s = tryStaging (verifying s) := by
    unfold enterVerify
    dsimp only
    rw [show (profileNotice .day (s.onSession fun x => { x with state := .verify, partDue := none, backDue := none })) = verifying s from rfl,
      hheader]
    exact if_pos hpass
  rw [hverify]
  exact if_pos ⟨rfl, hway, hwalk⟩

end Sys2Proof.Machine

namespace Sys2Proof.Proofs
open Sys2Proof.Machine

/-- ACCEPT in OPENING: O51's first clause. -/
theorem accept_uploads (mem : MemFaults) (b : Nat) (s : State) (hrun : s.power = .running) (hst : s.xce.session.state = .opening)
    (hsize : s.xce.blockSize = some b) :
    ∃ t, exec (.accept s.xce.session.number mem) s = .next t ∧ t.uls.inForce = .night ∧ t.xce.session.blockSize = b ∧
      t.xce.session.origin = s.jnl.mark.pos ∧ t.xce.session.limit = s.jnl.append.pos ∧
      t.xce.session.laid = (s.jnl.unuploaded + b - 1) / b ∧ t.itb = s.itb ∧ t.jnl.mark = s.jnl.mark ∧ t.jnl.append = s.jnl.append ∧
      (s.jnl.unuploaded = 0 → t.xce.session.state = .download ∧ t.jnl.limit = none ∧ t.xce.session.partDue = some (s.elapsed + 30)) ∧
      (0 < s.jnl.unuploaded → t.xce.session.state = .upload ∧ t.jnl.limit = some s.jnl.append ∧
        (s.xce.session.highestSent = 0 → s.xce.session.highestAcked = 0 → t.xce.session.highestSent = min 4 t.xce.session.laid)) := by
  have hstep : takeAccept s.xce.session.number mem s = _ :=
    (datagram_taken (takes := (· == .opening)) (enterUpload mem) hst nofun rfl).trans (enterUpload_eq mem hsize)
  have hexec := next_running (c := .accept s.xce.session.number mem) (f := takeAccept s.xce.session.number mem) rfl hrun
  by_cases hzero : s.jnl.unuploaded = 0
  · rw [hstep, if_pos hzero, enterDownload_frame] at hexec
    exact ⟨_, hexec, rfl, rfl, rfl, rfl, rfl, rfl, rfl, rfl, fun _ => ⟨rfl, rfl, rfl⟩, fun h => absurd hzero h.ne'⟩
  · rw [hstep, if_neg hzero] at hexec
    obtain ⟨hsends, -, -, -, hwindow⟩ := sendBlocks_spec mem 4 (uploading b s)
    generalize sendBlocks mem 4 (uploading b s) = t at *
    have hlaid : t.xce.session.laid = (uploading b s).xce.session.laid := by rw [hsends]
    refine ⟨t, hexec, ?_, ?_, ?_, ?_, hlaid, ?_, ?_, ?_, fun h => absurd h hzero, fun _ => ⟨?_, ?_, fun hsent hacked => ?_⟩⟩
    any_goals (rw [hsends]; rfl)
    have hmax := hwindow (by rw [show (uploading b s).xce.session.highestAcked = 0 from hacked]; exact Nat.zero_le _)
      (by rw [show (uploading b s).xce.session.highestAcked = 0 from hacked]; omega)
    rw [show (uploading b s).xce.session.highestAcked = 0 from hacked,
      show (uploading b s).xce.session.highestSent = 0 from hsent, ← hlaid] at hmax
    omega

/-- JACK in UPLOAD that advances: the last case of O51's second clause. -/
theorem jack_advances (n : Nat) (mem : MemFaults) (s : State) (hrun : s.power = .running) (hst : s.xce.session.state = .upload)
    (hsent : n ≤ s.xce.session.highestSent) (hnew : s.xce.session.highestAcked < n) :
    ∃ t, exec (.jack s.xce.session.number n mem) s = .next t ∧ t.xce.session.highestAcked = n ∧ t.xce.session.resends = 0 ∧
      t.itb = s.itb ∧ t.jnl.append = s.jnl.append ∧ t.jnl.oldest = s.jnl.oldest ∧
      (let x := s.xce.session
       let u := acknowledge (if n = x.laid then x.limit else (x.origin + n * x.blockSize) % 131072) s
       t.jnl.mark = u.jnl.mark ∧ t.jnl.highArmed = u.jnl.highArmed ∧ t.jnl.fullArmed = u.jnl.fullArmed ∧
       t.xce.session.highestSent = (if n = x.laid then x.highestSent else max x.highestSent (min x.laid (n + 4))) ∧
       t.xce.session.blocksSent = x.blocksSent + (t.xce.session.highestSent - x.highestSent)) ∧
      (n = s.xce.session.laid → t.xce.session.state = .download ∧ t.jnl.limit = none) ∧
      (n ≠ s.xce.session.laid → t.xce.session.state = .upload ∧ t.jnl.limit = s.jnl.limit ∧
        t.xce.session.uploadDue = some (s.elapsed + 10)) := by
  have hexec := next_running (c := .jack s.xce.session.number n mem) (f := takeJack s.xce.session.number n mem) rfl hrun
  have hjudge : takeJack s.xce.session.number n mem s = acknowledgeBlock n mem s := by
    refine (datagram_taken (takes := (· == .upload)) (judgeJack n mem) hst nofun rfl).trans ?_
    rw [judgeJack, if_neg (by omega), if_neg (by omega)]
  rw [hjudge, acknowledgeBlock_eq] at hexec
  have hextent : s.xce.session.blockEnd n =
      if n = s.xce.session.laid then s.xce.session.limit else (s.xce.session.origin + n * s.xce.session.blockSize) % 131072 := rfl
  have hack : ∃ u, acknowledge (s.xce.session.blockEnd n) s = u ∧ u = { s with jnl := { s.jnl with
      mark := u.jnl.mark, highArmed := u.jnl.highArmed, fullArmed := u.jnl.fullArmed } } := ⟨_, rfl, acknowledge_frame _ s⟩
  obtain ⟨u, hu, hframe⟩ := hack
  have hpart : ackedPart n s = u.onSession (·.acked n s.elapsed) := by rw [ackedPart, hu]
  have hxce : u.xce = s.xce := by rw [hframe]
  have helapsed : u.elapsed = s.elapsed := by rw [hframe]; rfl
  dsimp only
  rw [← hextent, hu]
  rw [hpart] at hexec
  by_cases hlast : n = s.xce.session.laid
  · rw [if_pos hlast, enterDownload_frame] at hexec
    refine ⟨_, hexec, rfl, rfl, ?_, ?_, ?_, ⟨rfl, rfl, rfl, ?_, ?_⟩, fun _ => ⟨rfl, rfl⟩, fun h => absurd hlast h⟩
    · rw [hframe]; rfl
    · rw [hframe]; rfl
    · rw [hframe]; rfl
    · rw [if_pos hlast, ← hxce]
      rfl
    · rw [← hxce]
      exact (Nat.add_eq_left.mpr (Nat.sub_self _)).symm
  · rw [if_neg hlast] at hexec
    obtain ⟨hsends, hdue, -, hcount, hwindow⟩ := sendBlocks_spec mem 4 (u.onSession (·.acked n s.elapsed))
    generalize sendBlocks mem 4 (u.onSession (·.acked n s.elapsed)) = t at *
    have hx : (u.onSession (·.acked n s.elapsed)).xce.session = s.xce.session.acked n s.elapsed := by rw [← hxce]; rfl
    rw [hx] at hdue hcount hwindow
    have hmax := hwindow (show n ≤ s.xce.session.highestSent from hsent) (show n + 4 ≤ s.xce.session.highestSent + 4 by omega)
    refine ⟨t, hexec, ?_, ?_, ?_, ?_, ?_, ⟨?_, ?_, ?_, ?_, hcount⟩, fun h => absurd h hlast, fun _ => ⟨?_, ?_, ?_⟩⟩
    · rw [hsends]; rfl
    · rw [hsends]; rfl
    · rw [hsends]; exact congrArg (·.itb) hframe
    · rw [hsends]; exact congrArg (·.jnl.append) hframe
    · rw [hsends]; exact congrArg (·.jnl.oldest) hframe
    · rw [hsends]; rfl
    · rw [hsends]; rfl
    · rw [hsends]; rfl
    · rw [if_neg hlast]
      exact hmax
    · rw [hsends]
      exact (congrArg (·.session.state) hxce).trans hst
    · rw [hsends]; exact congrArg (·.jnl.limit) hframe
    · rcases hdue with h | h
      · exact h
      · rw [h]
        exact congrArg (fun e => some (e + 10)) helapsed

/-- BPART in order: O51's fourth clause. -/
theorem bpart_joins (es : List RawChange) (h : BatchHeader) (s : State) (hrun : s.power = .running) (hst : s.xce.session.state = .download)
    (hh : s.xce.session.header = some h) (h1 : 1 ≤ es.length) (h16 : es.length ≤ 16) (hfits : s.xce.staging.length + es.length ≤ h.count) :
    let part := s.xce.session.highestPart + 1
    (∃ t, exec (.bpart s.xce.session.number part es false) s = .next t ∧
      t = { s with
        xce := { s.xce with
          staging := s.xce.staging ++ es
          session := { s.xce.session with
            highestPart := part, partDue := some (s.elapsed + 30), backDue := some (s.elapsed + 10) } }
        uls := { s.uls with exch := t.uls.exch } } ∧
      (∀ p, s.xce.session.peer = some p → s.uls.exch.frames.length < 128 → t.uls.exch.frames.map (·.payload) =
        s.uls.exch.frames.map (·.payload) ++ [.datagram Config.ownWanAddress p (.back s.xce.session.number part)])) ∧
    (s.xce.staging.length + es.length = h.count → (batchSum (s.xce.staging ++ es) + h.check) % 65536 = 0 →
      (s.xce.cutover.state = .none ∨ s.xce.cutover.state = .scheduled) → s.xce.walk = none →
      ∃ t, exec (.bpart s.xce.session.number part es true) s = .next t ∧ t.xce.session.state = .staging ∧
        t.xce.staging = s.xce.staging ++ es ∧ t.xce.stagingBatch = some h.batch ∧ t.itb.pendingBatch = none ∧
        t.itb.items = s.itb.items ∧ t.xce.walk = some (.pass1 none) ∧ t.uls.inForce = .day) ∧
    (s.xce.staging.length + es.length < h.count →
      ∃ t, exec (.bpart s.xce.session.number part es true) s = .next t ∧ t.xce.session.state = .idle ∧ t.xce.staging = [] ∧
        t.itb = s.itb ∧ t.uls.inForce = .day) := by
  intro part
  have hexec (last : Bool) : exec (.bpart s.xce.session.number part es last) s = .next (judgeCount h.count last (joinPart part es s)) := by
    refine (next_running (f := takeBpart s.xce.session.number part es last) rfl hrun).trans (congrArg _ ?_)
    exact (datagram_taken (takes := (· == .download)) (judgePart part es last) hst nofun rfl).trans (judgePart_inOrder last hh h1 h16)
  have hframe := joinPart_frame part es s
  have hpayloads := fun p => joinPart_payloads (s := s) part es (p := p)
  generalize joinPart part es s = u at *
  have hlen : u.xce.staging.length = s.xce.staging.length + es.length := by rw [hframe]; exact List.length_append
  have hcount (last : Bool) : judgeCount h.count last u =
      if last then (if u.xce.staging.length = h.count then enterVerify u else failSession .countMismatch u) else u :=
    if_neg (by omega)
  refine ⟨⟨u, (hexec false).trans (congrArg _ (hcount false)), hframe, hpayloads⟩, fun hall hcheck hcut hwalk => ?_, fun hless => ?_⟩
  · have hverify : judgeCount h.count true u = enterStaging (verifying u) := by
      rw [hcount, if_pos rfl, if_pos (by omega)]
      refine enterVerify_passes (h := h) ?_ ?_ ?_ ?_
      · rw [hframe]; exact hh
      · rw [hframe]; exact hcheck
      · rw [hframe]; exact hcut
      · rw [hframe]; exact hwalk
    refine ⟨_, (hexec true).trans (congrArg _ hverify), rfl, ?_, ?_, rfl, ?_, rfl, rfl⟩
    · rw [hframe]; rfl
    · rw [hframe]; exact congrArg (Option.map (·.batch)) hh
    · rw [hframe]; rfl
  · have hfail : judgeCount h.count true u = failSession .countMismatch u := by
      rw [hcount, if_pos rfl, if_neg (by omega)]
    have hdownload : u.xce.session.state = .download := by rw [hframe]; exact hst
    rw [failSession_leaves .countMismatch hdownload (.inr (.inr (.inl rfl)))] at hfail
    refine ⟨_, (hexec true).trans (congrArg _ hfail), rfl, rfl, ?_, rfl⟩
    rw [hframe]

/-- Settles O51, datagram by datagram. -/
theorem datagramsMoveTheSession : Obligations.DatagramsMoveTheSession := by
  refine ⟨fun mem b s hrun hst hsize _ => accept_uploads mem b s hrun hst hsize, fun n mem s hrun hst => ⟨fun hhigh => ?_, fun hsent hold => ?_,
    jack_advances n mem s hrun hst⟩, fun batch epoch count check s hrun hst => ?_, bpart_joins⟩
  · refine (next_running (f := takeJack s.xce.session.number n mem) rfl hrun).trans (congrArg _ ?_)
    exact (datagram_taken (takes := (· == .upload)) (judgeJack n mem) hst nofun rfl).trans (if_pos hhigh)
  · refine (next_running (f := takeJack s.xce.session.number n mem) rfl hrun).trans (congrArg _ ?_)
    refine (datagram_taken (takes := (· == .upload)) (judgeJack n mem) hst nofun rfl).trans ?_
    rw [judgeJack, if_neg (by omega), if_pos hold]
  · have hexec : exec (.bhead s.xce.session.number batch epoch count check) s = .next (judgeHeader ⟨batch, epoch, count, check⟩ s) := by
      refine (next_running (f := takeBhead s.xce.session.number ⟨batch, epoch, count, check⟩) rfl hrun).trans (congrArg _ ?_)
      exact datagram_taken (takes := (· == .download)) _ hst nofun rfl
    refine ⟨fun hnone hepoch hpos hcount => ?_, fun hnone hbad => ?_, fun h hsome hne => ?_⟩
    · refine ⟨_, hexec.trans (congrArg _ (judgeHeader_first hnone hepoch hpos hcount)), sendBack_frame _, fun p hp hroom => ?_⟩
      exact sendBack_payloads (s := s.onSession fun x => { x with header := some ⟨batch, epoch, count, check⟩ }) hp hroom
    · have hfail := judgeHeader_refused (s := s) (h := ⟨batch, epoch, count, check⟩) hnone hbad
      rw [failSession_leaves _ hst (.inr (.inr (.inl rfl)))] at hfail
      refine ⟨_, hexec.trans (congrArg _ hfail), rfl, rfl, rfl, ?_⟩
      rw [logFailure_quiet (by split <;> rfl)]
      rfl
    · exact hexec.trans (congrArg _ (judgeHeader_other hsome hne))

end Sys2Proof.Proofs
end
